-- ==== Sys2Proof/Word.lean ====
section
/-! DEFINITION. The words of the engine (00_scope.md R8, R9): 32-bit data words and 64-bit instruction words.
`u(v)` is `v.toNat`, `s(v)` is `v.toInt`, `w(n)` is `BitVec.ofInt 32 n` (or `BitVec.ofNat 32 n`). -/

namespace Sys2Proof

/-- A data word: registers, memory cells, stack entries, immediates and the pc (R9). -/
abbrev Word := BitVec 32

/-- An instruction word (R300). -/
abbrev InstrWord := BitVec 64

/-- `MIN`, the word with signed value -2147483648 (R9). -/
abbrev minWord : Word := 0x80000000#32

/-- The word whose signed value is -1. -/
abbrev minusOne : Word := 0xFFFFFFFF#32

end Sys2Proof
end

