-- ==== Sys2Proof/Syntax.lean ====
section
/-! DEFINITION. The instructions (30_encoding.md R310): one constructor per row of spec/opcode_table.json, its operands
resolved: a register operand is a constructor of `Reg`, so no ill-formed instruction can be written. Beside it the raw
fields of an instruction word (R301) and the fourteen formats (R309), on which well-formedness is checked. -/

namespace Sys2Proof

/-- The ten named registers (10_state.md R104, 30_encoding.md R304). -/
inductive Reg where
  | r0 | r1 | r2 | r3 | r4 | r5 | r6 | r7 | sp | lr
  deriving DecidableEq, Repr

/-- Operand 2 of the formats DSO, DO and SO (R306): a register (M = 0) or an immediate (M = 1). -/
inductive Op2 where
  | reg (r : Reg)
  | imm (v : Word)
  deriving DecidableEq, Repr

/-- The 73 instructions, operands in the assembly order of R310. -/
inductive Instr where
  -- control (46_control.md); `blank` is the B bit (R307)
  | nop (blank : Bool)
  | halt
  | reset
  | debug
  -- data movement (41_data_movement.md)
  | load (rd : Reg) (imm : Word)
  | mov (rd rs : Reg)
  | ldr (rd : Reg) (addr : Word)
  | str (rs : Reg) (addr : Word)
  | ldri (rd ra : Reg)
  | stri (rs ra : Reg)
  | lea (rd : Reg) (addr : Word)
  | swap (ra rb : Reg)
  -- arithmetic (42_arithmetic.md)
  | add (rd ra rb : Reg)
  | sub (rd ra rb : Reg)
  | mul (rd ra rb : Reg)
  | div (rd ra rb : Reg)
  | mod (rd ra rb : Reg)
  | addi (rd ra : Reg) (imm : Word)
  | subi (rd ra : Reg) (imm : Word)
  | muli (rd ra : Reg) (imm : Word)
  | divi (rd ra : Reg) (imm : Word)
  | modi (rd ra : Reg) (imm : Word)
  | pow (rd ra rb : Reg)
  | sqrt (rd ra : Reg)
  | abs (rd ra : Reg)
  | neg (rd ra : Reg)
  | inc (rd : Reg)
  | dec (rd : Reg)
  -- logic, shift, rotate (43_logic_bit.md)
  | and (rd ra rb : Reg)
  | or (rd ra rb : Reg)
  | xor (rd ra rb : Reg)
  | not (rd ra : Reg)
  | nand (rd ra rb : Reg)
  | nor (rd ra rb : Reg)
  | shl (rd ra : Reg) (op2 : Op2)
  | shr (rd ra : Reg) (op2 : Op2)
  | rol (rd ra : Reg) (op2 : Op2)
  | ror (rd ra : Reg) (op2 : Op2)
  -- bit manipulation (43_logic_bit.md)
  | setbit (rd : Reg) (op2 : Op2)
  | clrbit (rd : Reg) (op2 : Op2)
  | togbit (rd : Reg) (op2 : Op2)
  | testbit (ra : Reg) (op2 : Op2)
  | popcnt (rd ra : Reg)
  | clz (rd ra : Reg)
  -- compare (44_compare_branch.md)
  | cmp (ra rb : Reg)
  | cmpi (ra : Reg) (imm : Word)
  | test (ra rb : Reg)
  | testi (ra : Reg) (imm : Word)
  -- branch (44_compare_branch.md)
  | jmp (target : Word)
  | jeq (target : Word)
  | jz (target : Word)
  | jne (target : Word)
  | jnz (target : Word)
  | jlt (target : Word)
  | jgt (target : Word)
  | jle (target : Word)
  | jge (target : Word)
  | jc (target : Word)
  | jnc (target : Word)
  | jo (target : Word)
  | jno (target : Word)
  -- stack (45_stack.md)
  | push (rs : Reg)
  | pop (rd : Reg)
  | call (target : Word)
  | ret
  | pusha
  | popa
  | pushf
  | popf
  -- interrupt (47_interrupt.md)
  | int (n : Word)
  | cli
  | sti
  | iret
  deriving DecidableEq, Repr

/-- The fourteen formats of R309, under the spec's own names. -/
inductive Format where
  | N | NB | DI | SI | DS | SS | DSS | DSI | DSO | DO | SO | D | S | I
  deriving DecidableEq, Repr

/-- The fields of an instruction word (R301). -/
structure Fields where
  opc : BitVec 8
  rd : BitVec 4
  ra : BitVec 4
  rb : BitVec 4
  m : Bool
  b : Bool
  rsv : BitVec 10
  imm : Word
  deriving DecidableEq, Repr

end Sys2Proof
end

