-- ==== Sys2Proof/Decode.lean ====
section
/-! DEFINITION. The decoder of 30_encoding.md R312, total on all 64-bit words and rejecting by name, and the encoder
written from the same tables (R301, R304, R306, R309, R310). Each format has one reader and one writer; the opcode map
stands once in the decoder and once in the encoder, with the format beside each opcode. -/

namespace Sys2Proof

/-- Why a word is invalid (R302, R304, R306-R308, R313). -/
inductive Reject where
  /-- The opcode is not in the map of R310 (R313). -/
  | reservedOpcode
  /-- RSV is not 0 (R302). -/
  | reservedBits
  /-- B is 1 outside NOP (R307). -/
  | blankBit
  /-- A used register field holds 10..15 (R304). -/
  | reservedRegister
  /-- An unused register field is not 0 (R308). -/
  | unusedRegister
  /-- M is 1 in a format without operand 2 (R306). -/
  | unusedMode
  /-- IMM is not 0 where the format does not use it, or in the register form of operand 2 (R306, R308). -/
  | unusedImmediate
  deriving DecidableEq, Repr

/-- The register of a code; 10..15 are reserved (R304). -/
def Reg.ofCode (c : BitVec 4) : Option Reg :=
  match c.toNat with
  | 0 => some .r0
  | 1 => some .r1
  | 2 => some .r2
  | 3 => some .r3
  | 4 => some .r4
  | 5 => some .r5
  | 6 => some .r6
  | 7 => some .r7
  | 8 => some .sp
  | 9 => some .lr
  | _ => none

/-- The code of a register (R304). -/
def Reg.code : Reg → BitVec 4
  | .r0 => 0
  | .r1 => 1
  | .r2 => 2
  | .r3 => 3
  | .r4 => 4
  | .r5 => 5
  | .r6 => 6
  | .r7 => 7
  | .sp => 8
  | .lr => 9

/-- The fields of a word (R301). -/
def Fields.ofWord (w : InstrWord) : Fields where
  opc := w.extractLsb' 56 8
  rd := w.extractLsb' 52 4
  ra := w.extractLsb' 48 4
  rb := w.extractLsb' 44 4
  m := w.getLsbD 43
  b := w.getLsbD 42
  rsv := w.extractLsb' 32 10
  imm := w.extractLsb' 0 32

/-- The word of the fields (R301). -/
def Fields.toWord (f : Fields) : InstrWord :=
  f.opc ++ f.rd ++ f.ra ++ f.rb ++ BitVec.ofBool f.m ++ BitVec.ofBool f.b ++ f.rsv ++ f.imm

/-- Go on where a requirement holds, else reject. -/
def require (ok : Bool) (why : Reject) : Except Reject Unit :=
  if ok then .ok () else .error why

/-- A used register field (R304). -/
def usedReg (c : BitVec 4) : Except Reject Reg :=
  match Reg.ofCode c with
  | some r => .ok r
  | none => .error .reservedRegister

/-- An unused register field (R308). -/
def noReg (c : BitVec 4) : Except Reject Unit := require (c == 0) .unusedRegister

/-- RSV = 0 and B = 0, as in every word but a NOP's (R302, R307). -/
def plainWord (f : Fields) : Except Reject Unit := do
  require (f.rsv == 0) .reservedBits
  require (!f.b) .blankBit

/-- M = 0, as in every format without operand 2 (R306). -/
def noMode (f : Fields) : Except Reject Unit := require (!f.m) .unusedMode

/-- IMM = 0, in a format that does not use it (R308). -/
def noImm (f : Fields) : Except Reject Unit := require (f.imm == 0) .unusedImmediate

/-- Operand 2 (R306). -/
def readOp2 (f : Fields) : Except Reject Op2 :=
  if f.m then do
    noReg f.rb
    pure (.imm f.imm)
  else do
    let r ← usedReg f.rb
    noImm f
    pure (.reg r)

/-- Format N. -/
def readN (f : Fields) (k : Instr) : Except Reject Instr := do
  plainWord f; noReg f.rd; noReg f.ra; noReg f.rb; noMode f; noImm f
  pure k

/-- Format NB: as N, but B is free (R307). -/
def readNB (f : Fields) (k : Bool → Instr) : Except Reject Instr := do
  require (f.rsv == 0) .reservedBits
  noReg f.rd; noReg f.ra; noReg f.rb; noMode f; noImm f
  pure (k f.b)

/-- Format DI. -/
def readDI (f : Fields) (k : Reg → Word → Instr) : Except Reject Instr := do
  plainWord f
  let rd ← usedReg f.rd
  noReg f.ra; noReg f.rb; noMode f
  pure (k rd f.imm)

/-- Format SI. -/
def readSI (f : Fields) (k : Reg → Word → Instr) : Except Reject Instr := do
  plainWord f; noReg f.rd
  let ra ← usedReg f.ra
  noReg f.rb; noMode f
  pure (k ra f.imm)

/-- Format DS. -/
def readDS (f : Fields) (k : Reg → Reg → Instr) : Except Reject Instr := do
  plainWord f
  let rd ← usedReg f.rd
  let ra ← usedReg f.ra
  noReg f.rb; noMode f; noImm f
  pure (k rd ra)

/-- Format SS. -/
def readSS (f : Fields) (k : Reg → Reg → Instr) : Except Reject Instr := do
  plainWord f; noReg f.rd
  let ra ← usedReg f.ra
  let rb ← usedReg f.rb
  noMode f; noImm f
  pure (k ra rb)

/-- Format DSS. -/
def readDSS (f : Fields) (k : Reg → Reg → Reg → Instr) : Except Reject Instr := do
  plainWord f
  let rd ← usedReg f.rd
  let ra ← usedReg f.ra
  let rb ← usedReg f.rb
  noMode f; noImm f
  pure (k rd ra rb)

/-- Format DSI. -/
def readDSI (f : Fields) (k : Reg → Reg → Word → Instr) : Except Reject Instr := do
  plainWord f
  let rd ← usedReg f.rd
  let ra ← usedReg f.ra
  noReg f.rb; noMode f
  pure (k rd ra f.imm)

/-- Format DSO. -/
def readDSO (f : Fields) (k : Reg → Reg → Op2 → Instr) : Except Reject Instr := do
  plainWord f
  let rd ← usedReg f.rd
  let ra ← usedReg f.ra
  let o ← readOp2 f
  pure (k rd ra o)

/-- Format DO. -/
def readDO (f : Fields) (k : Reg → Op2 → Instr) : Except Reject Instr := do
  plainWord f
  let rd ← usedReg f.rd
  noReg f.ra
  let o ← readOp2 f
  pure (k rd o)

/-- Format SO. -/
def readSO (f : Fields) (k : Reg → Op2 → Instr) : Except Reject Instr := do
  plainWord f; noReg f.rd
  let ra ← usedReg f.ra
  let o ← readOp2 f
  pure (k ra o)

/-- Format D. -/
def readD (f : Fields) (k : Reg → Instr) : Except Reject Instr := do
  plainWord f
  let rd ← usedReg f.rd
  noReg f.ra; noReg f.rb; noMode f; noImm f
  pure (k rd)

/-- Format S. -/
def readS (f : Fields) (k : Reg → Instr) : Except Reject Instr := do
  plainWord f; noReg f.rd
  let ra ← usedReg f.ra
  noReg f.rb; noMode f; noImm f
  pure (k ra)

/-- Format I. -/
def readI (f : Fields) (k : Word → Instr) : Except Reject Instr := do
  plainWord f; noReg f.rd; noReg f.ra; noReg f.rb; noMode f
  pure (k f.imm)

/-- The instruction of the fields (R310, R312). -/
def decodeFields (f : Fields) : Except Reject Instr :=
  match f.opc.toNat with
  | 0x00 => readNB f .nop
  | 0x01 => readN f .halt
  | 0x02 => readN f .reset
  | 0x03 => readN f .debug
  | 0x10 => readDI f .load
  | 0x11 => readDS f .mov
  | 0x12 => readDI f .ldr
  | 0x13 => readSI f .str
  | 0x14 => readDS f .ldri
  | 0x15 => readSS f .stri
  | 0x16 => readDI f .lea
  | 0x17 => readDS f .swap
  | 0x20 => readDSS f .add
  | 0x21 => readDSS f .sub
  | 0x22 => readDSS f .mul
  | 0x23 => readDSS f .div
  | 0x24 => readDSS f .mod
  | 0x25 => readDSI f .addi
  | 0x26 => readDSI f .subi
  | 0x27 => readDSI f .muli
  | 0x28 => readDSI f .divi
  | 0x29 => readDSI f .modi
  | 0x2A => readDSS f .pow
  | 0x2B => readDS f .sqrt
  | 0x2C => readDS f .abs
  | 0x2D => readDS f .neg
  | 0x2E => readD f .inc
  | 0x2F => readD f .dec
  | 0x30 => readDSS f .and
  | 0x31 => readDSS f .or
  | 0x32 => readDSS f .xor
  | 0x33 => readDS f .not
  | 0x34 => readDSS f .nand
  | 0x35 => readDSS f .nor
  | 0x36 => readDSO f .shl
  | 0x37 => readDSO f .shr
  | 0x38 => readDSO f .rol
  | 0x39 => readDSO f .ror
  | 0x40 => readDO f .setbit
  | 0x41 => readDO f .clrbit
  | 0x42 => readDO f .togbit
  | 0x43 => readSO f .testbit
  | 0x44 => readDS f .popcnt
  | 0x45 => readDS f .clz
  | 0x50 => readSS f .cmp
  | 0x51 => readSI f .cmpi
  | 0x52 => readSS f .test
  | 0x53 => readSI f .testi
  | 0x60 => readI f .jmp
  | 0x61 => readI f .jeq
  | 0x62 => readI f .jz
  | 0x63 => readI f .jne
  | 0x64 => readI f .jnz
  | 0x65 => readI f .jlt
  | 0x66 => readI f .jgt
  | 0x67 => readI f .jle
  | 0x68 => readI f .jge
  | 0x69 => readI f .jc
  | 0x6A => readI f .jnc
  | 0x6B => readI f .jo
  | 0x6C => readI f .jno
  | 0x70 => readS f .push
  | 0x71 => readD f .pop
  | 0x72 => readI f .call
  | 0x73 => readN f .ret
  | 0x74 => readN f .pusha
  | 0x75 => readN f .popa
  | 0x76 => readN f .pushf
  | 0x77 => readN f .popf
  | 0x80 => readI f .int
  | 0x81 => readN f .cli
  | 0x82 => readN f .sti
  | 0x83 => readN f .iret
  | _ => .error .reservedOpcode

/-- `decode(w)` of R312: `.ok i` is `valid(i)`, `.error why` is `invalid`. -/
def decode (w : InstrWord) : Except Reject Instr := decodeFields (Fields.ofWord w)

/-- The fields with only the opcode set. -/
def putN (opc : BitVec 8) : Fields :=
  { opc := opc, rd := 0, ra := 0, rb := 0, m := false, b := false, rsv := 0, imm := 0 }

/-- Format NB. -/
def putNB (opc : BitVec 8) (blank : Bool) : Fields := { putN opc with b := blank }

/-- Format D. -/
def putD (opc : BitVec 8) (rd : Reg) : Fields := { putN opc with rd := rd.code }

/-- Format S. -/
def putS (opc : BitVec 8) (ra : Reg) : Fields := { putN opc with ra := ra.code }

/-- Format I. -/
def putI (opc : BitVec 8) (imm : Word) : Fields := { putN opc with imm := imm }

/-- Format DI. -/
def putDI (opc : BitVec 8) (rd : Reg) (imm : Word) : Fields := { putN opc with rd := rd.code, imm := imm }

/-- Format SI. -/
def putSI (opc : BitVec 8) (ra : Reg) (imm : Word) : Fields := { putN opc with ra := ra.code, imm := imm }

/-- Format DS. -/
def putDS (opc : BitVec 8) (rd ra : Reg) : Fields := { putN opc with rd := rd.code, ra := ra.code }

/-- Format SS. -/
def putSS (opc : BitVec 8) (ra rb : Reg) : Fields := { putN opc with ra := ra.code, rb := rb.code }

/-- Format DSS. -/
def putDSS (opc : BitVec 8) (rd ra rb : Reg) : Fields :=
  { putN opc with rd := rd.code, ra := ra.code, rb := rb.code }

/-- Format DSI. -/
def putDSI (opc : BitVec 8) (rd ra : Reg) (imm : Word) : Fields :=
  { putN opc with rd := rd.code, ra := ra.code, imm := imm }

/-- Operand 2 added to the fields (R306). -/
def putOp2 (f : Fields) (o : Op2) : Fields :=
  match o with
  | .reg r => { f with rb := r.code }
  | .imm v => { f with m := true, imm := v }

/-- Format DSO. -/
def putDSO (opc : BitVec 8) (rd ra : Reg) (o : Op2) : Fields := putOp2 (putDS opc rd ra) o

/-- Format DO. -/
def putDO (opc : BitVec 8) (rd : Reg) (o : Op2) : Fields := putOp2 (putD opc rd) o

/-- Format SO. -/
def putSO (opc : BitVec 8) (ra : Reg) (o : Op2) : Fields := putOp2 (putS opc ra) o

/-- The fields of an instruction (R309, R310). -/
def encodeFields (i : Instr) : Fields :=
  match i with
  | .nop blank => putNB 0x00 blank
  | .halt => putN 0x01
  | .reset => putN 0x02
  | .debug => putN 0x03
  | .load rd imm => putDI 0x10 rd imm
  | .mov rd ra => putDS 0x11 rd ra
  | .ldr rd imm => putDI 0x12 rd imm
  | .str ra imm => putSI 0x13 ra imm
  | .ldri rd ra => putDS 0x14 rd ra
  | .stri ra rb => putSS 0x15 ra rb
  | .lea rd imm => putDI 0x16 rd imm
  | .swap rd ra => putDS 0x17 rd ra
  | .add rd ra rb => putDSS 0x20 rd ra rb
  | .sub rd ra rb => putDSS 0x21 rd ra rb
  | .mul rd ra rb => putDSS 0x22 rd ra rb
  | .div rd ra rb => putDSS 0x23 rd ra rb
  | .mod rd ra rb => putDSS 0x24 rd ra rb
  | .addi rd ra imm => putDSI 0x25 rd ra imm
  | .subi rd ra imm => putDSI 0x26 rd ra imm
  | .muli rd ra imm => putDSI 0x27 rd ra imm
  | .divi rd ra imm => putDSI 0x28 rd ra imm
  | .modi rd ra imm => putDSI 0x29 rd ra imm
  | .pow rd ra rb => putDSS 0x2A rd ra rb
  | .sqrt rd ra => putDS 0x2B rd ra
  | .abs rd ra => putDS 0x2C rd ra
  | .neg rd ra => putDS 0x2D rd ra
  | .inc rd => putD 0x2E rd
  | .dec rd => putD 0x2F rd
  | .and rd ra rb => putDSS 0x30 rd ra rb
  | .or rd ra rb => putDSS 0x31 rd ra rb
  | .xor rd ra rb => putDSS 0x32 rd ra rb
  | .not rd ra => putDS 0x33 rd ra
  | .nand rd ra rb => putDSS 0x34 rd ra rb
  | .nor rd ra rb => putDSS 0x35 rd ra rb
  | .shl rd ra o => putDSO 0x36 rd ra o
  | .shr rd ra o => putDSO 0x37 rd ra o
  | .rol rd ra o => putDSO 0x38 rd ra o
  | .ror rd ra o => putDSO 0x39 rd ra o
  | .setbit rd o => putDO 0x40 rd o
  | .clrbit rd o => putDO 0x41 rd o
  | .togbit rd o => putDO 0x42 rd o
  | .testbit ra o => putSO 0x43 ra o
  | .popcnt rd ra => putDS 0x44 rd ra
  | .clz rd ra => putDS 0x45 rd ra
  | .cmp ra rb => putSS 0x50 ra rb
  | .cmpi ra imm => putSI 0x51 ra imm
  | .test ra rb => putSS 0x52 ra rb
  | .testi ra imm => putSI 0x53 ra imm
  | .jmp imm => putI 0x60 imm
  | .jeq imm => putI 0x61 imm
  | .jz imm => putI 0x62 imm
  | .jne imm => putI 0x63 imm
  | .jnz imm => putI 0x64 imm
  | .jlt imm => putI 0x65 imm
  | .jgt imm => putI 0x66 imm
  | .jle imm => putI 0x67 imm
  | .jge imm => putI 0x68 imm
  | .jc imm => putI 0x69 imm
  | .jnc imm => putI 0x6A imm
  | .jo imm => putI 0x6B imm
  | .jno imm => putI 0x6C imm
  | .push ra => putS 0x70 ra
  | .pop rd => putD 0x71 rd
  | .call imm => putI 0x72 imm
  | .ret => putN 0x73
  | .pusha => putN 0x74
  | .popa => putN 0x75
  | .pushf => putN 0x76
  | .popf => putN 0x77
  | .int imm => putI 0x80 imm
  | .cli => putN 0x81
  | .sti => putN 0x82
  | .iret => putN 0x83

/-- The word of an instruction (R301, R310). -/
def encode (i : Instr) : InstrWord := (encodeFields i).toWord

/-- The word of a blank, comment-only or label-only line: a NOP with B = 1 (R311). -/
def blankNopWord : InstrWord := 0x0000040000000000#64

/-- The word of a malformed line: a NOP with B = 0 (R311, R337). -/
def malformedWord : InstrWord := 0x0000000000000000#64

/-- The word of a line with an unrecognised mnemonic: opcode 0xFF with IMM the line index (R313, R338). -/
def unknownMnemonicWord (line : Nat) : InstrWord := (putI 0xFF (BitVec.ofNat 32 line)).toWord

/-- The instruction the decoder reads from the low `nbits` bits of `w`, every bit above them 0: one 64-bit word, numbered as
R8 numbers it. -/
def decodeTableWord (nbits w : Nat) : Option Instr :=
  match decode (BitVec.ofNat 64 (w % 2 ^ nbits)) with
  | .ok i => some i
  | .error _ => none

end Sys2Proof
end

