-- ==== Sys2Proof/Config.lean ====
section
/-! DEFINITION. What an implementation fixes (the OPEN parameters of 00_scope.md R7, as plain data) and what the
spec leaves free (opaque constants without a body: nothing can evaluate them or prove a value of them).
The records of the output port stand here because `RenderOutput`
is a function of them. The parameters are carried in State (field `par`, log entry 1), so every statement about every state holds for
every value of them; their defaults are in Machine/Defaults.lean. -/

namespace Sys2Proof.Machine

/-- The diagnostics (60_exceptions.md R1202). -/
inductive Diag where
  /-- An invalid word: its index and the word (R403). -/
  | unknownInstruction (pc : Word) (w : InstrWord)
  /-- An interrupt number with no service (R1138). -/
  | unknownInt (n : Word)
  /-- A division by zero, only under DIAG_ON_DIV0 (R604). -/
  | divZero (pc : Word)
  /-- A data address out of range, only under DIAG_ON_MEM_RANGE (R203, R204). -/
  | memRange (pc addr : Word)
  deriving DecidableEq, Repr

/-- The records of the output port (R150). -/
inductive OutRecord where
  | char (v : Word)
  | num (v : Word)
  | hex (v : Word)
  | bin (v : Word)
  | diag (d : Diag)
  | haltMarker
  | stopMarker
  deriving DecidableEq, Repr

end Sys2Proof.Machine

namespace Sys2Proof

/-- `DIV0_FLAGS` (R7, 92_eei_decisions.md D14): the flag effect of a division by zero. -/
inductive Div0Flags where
  /-- Z=1, N=0, V=1 (the default). -/
  | set
  /-- No flag is written. -/
  | leave
  deriving DecidableEq, Repr

/-- `DIV_ROUNDING` (R7, 92_eei_decisions.md D13): how a signed quotient is rounded. -/
inductive Rounding where
  /-- Toward zero (the default). -/
  | trunc
  /-- Toward minus infinity. -/
  | floor
  deriving DecidableEq, Repr

/-- The choice of `LinePixels` (R1118): the default algorithm, or any other one, by number (log entry 8). -/
inductive LineAlgorithm where
  | bresenham
  | other (k : Nat)
  deriving DecidableEq, Repr

/-- The choice of `CirclePixels` (R1122): the default algorithm, or any other one, by number (log entry 8). -/
inductive CircleAlgorithm where
  | midpoint
  | other (k : Nat)
  deriving DecidableEq, Repr

/-- The choice of `RenderOutput` (R1111): the default text, or any other rendering, by number (log entry 21). -/
inductive Rendering where
  | plain
  | other (k : Nat)
  deriving DecidableEq, Repr

/-- The services of the interrupt dispatcher (47_interrupt.md R1101), in the table's order. -/
inductive Service where
  | printChar | printNum | printHex | printBin
  | screenClear | screenSetPixel | screenGetPixel | screenSetColor | screenDrawLine | screenDrawRect
  | screenFillRect | screenDrawCircle | screenSetCursor | screenPrintChar
  | kbdEnable | kbdDisable | kbdSetHandler | kbdScancode | kbdAscii | kbdRead | kbdStatus | kbdBufsize | kbdClear
  | random | getTime | beep | playTone
  deriving DecidableEq, Repr

/-- The OPEN parameters of R7. -/
structure Params where
  /-- `STACK_CAPACITY`: `none` is unbounded (R123). -/
  stackCapacity : Option Nat
  /-- `INT_MAP`: interrupt number to service; the first entry of a number counts (R1101). -/
  intMap : List (Word × Service)
  /-- `KBD_GATED_BY_IF`: does F.I gate keyboard delivery (R1204). -/
  kbdGatedByIf : Bool
  /-- `IRET_IF_VALUE`: what IRET writes to F.I (R1105). -/
  iretIfValue : Bool
  /-- `DIAG_ON_DIV0` (R604). -/
  diagOnDiv0 : Bool
  /-- `DIV0_FLAGS` (R604). -/
  div0Flags : Div0Flags
  /-- `DIV_ROUNDING` (R604). -/
  divRounding : Rounding
  /-- `DIAG_ON_MEM_RANGE` (R205). -/
  diagOnMemRange : Bool
  /-- `RESET_COLOR` (R142). -/
  resetColor : Word
  /-- `LinePixels` (R1118). -/
  lineAlgorithm : LineAlgorithm
  /-- `CirclePixels` (R1122). -/
  circleAlgorithm : CircleAlgorithm
  /-- `RenderOutput` (R1111): no step reads it. -/
  rendering : Rendering
  /-- Does the trace port carry a bus record per executed instruction (R152 lets a model omit them; log entry 11). -/
  traceBus : Bool
  deriving DecidableEq, Repr

/-- One bus-activity record of the trace port (R152): address, data, operation type. -/
structure BusRecord where
  address : Word
  data : Word
  kind : Word
  deriving DecidableEq, Repr, Inhabited

/-- `RandomDraw` (R1134): the n-th free value drawn. FREE VALUE, log entry 6. -/
opaque Config.randomDraw : Nat → Word

/-- `TimeDraw` (R1135): the n-th free value drawn. FREE VALUE, log entry 6. -/
opaque Config.timeDraw : Nat → Word

/-- The contents of the bus record that is the n-th free value drawn (R152). FREE VALUE, log entry 11. -/
opaque Config.busRecord : Nat → BusRecord

/-- The plots of `ScreenPutChar` (R1124), in order, as a function of the framebuffer's cells, the cursor, the colour and the
character: x, y, and whether the pixel is drawn in the colour (else in 0). FREE VALUE, log entry 7. -/
opaque Config.putCharPlots : List (Nat × Word) → Word × Word → Word → Word → List ((Int × Int) × Bool)

/-- The cursor `ScreenPutChar` leaves (R1124), as a function of the same four arguments. FREE VALUE, log entry 7. -/
opaque Config.putCharCursor : List (Nat × Word) → Word × Word → Word → Word → Word × Word

/-- What the k-th other `LinePixels` proposes for the end points (x0, y0) and (x1, y1). FREE VALUE, log entry 8. -/
opaque Config.otherLine : Nat → Int → Int → Int → Int → List (Int × Int)

/-- What the k-th other `CirclePixels` proposes for a centre and a radius. FREE VALUE, log entry 8. -/
opaque Config.otherCircle : Nat → Int → Int → Nat → List (Int × Int)

/-- The text the k-th other `RenderOutput` makes of the output port. FREE VALUE, log entry 21. -/
opaque Config.otherRendering : Nat → List Machine.OutRecord → List Char

end Sys2Proof
end

