-- ==== Sys2Proof/Machine/Defaults.lean ====
section
/-! DEFINITION. The default values of the OPEN parameters (00_scope.md R7) and the default INT_MAP (47_interrupt.md R1101).
State.reset holds them; no statement rests on them unless it names them. -/

namespace Sys2Proof.Machine

/-- The default `INT_MAP` (R1101). -/
def defaultIntMap : List (Word × Service) :=
  [ (0x00, .printChar), (0x01, .printNum), (0x02, .printHex), (0x03, .printBin),
    (0x10, .screenClear), (0x11, .screenSetPixel), (0x12, .screenGetPixel), (0x13, .screenSetColor),
    (0x14, .screenDrawLine), (0x15, .screenDrawRect), (0x16, .screenFillRect), (0x17, .screenDrawCircle),
    (0x18, .screenSetCursor), (0x19, .screenPrintChar),
    (0x20, .kbdEnable), (0x21, .kbdDisable), (0x22, .kbdSetHandler), (0x23, .kbdScancode), (0x24, .kbdAscii),
    (0x25, .kbdRead), (0x26, .kbdStatus), (0x27, .kbdBufsize), (0x28, .kbdClear),
    (0x30, .random), (0x31, .getTime), (0x40, .beep), (0x41, .playTone) ]

/-- The default parameters (R7). That no bus record is traced is what R152 permits a model (log entry 11). -/
def defaultParams : Params where
  stackCapacity := none
  intMap := defaultIntMap
  kbdGatedByIf := false
  iretIfValue := false
  diagOnDiv0 := false
  div0Flags := .set
  divRounding := .trunc
  diagOnMemRange := false
  resetColor := 1
  lineAlgorithm := .bresenham
  circleAlgorithm := .midpoint
  rendering := .plain
  traceBus := false

end Sys2Proof.Machine
end

