-- ==== Sys2Proof/Machine/State.lean ====
section
/-! DEFINITION. Everything the spec gives the machine to hold (10_state.md R100), as plain data, and the machine right after
reset (70_reset_and_hazards.md R1300, R1301). -/

namespace Sys2Proof.Machine

/-- The register file (R101-R103): eight general registers, the stack counter SP, the link register LR. -/
structure Regs where
  r0 : Word
  r1 : Word
  r2 : Word
  r3 : Word
  r4 : Word
  r5 : Word
  r6 : Word
  r7 : Word
  sp : Word
  lr : Word
  deriving DecidableEq, Repr

/-- The five flags (R110): zero, carry, negative, overflow, interrupt. -/
structure Flags where
  z : Bool
  c : Bool
  n : Bool
  v : Bool
  i : Bool
  deriving DecidableEq, Repr

/-- The engine state `RUN` (R119). -/
inductive RunState where
  | idle | running | stepping | halted | stopped
  deriving DecidableEq, Repr

/-- The keyboard device (R130). -/
structure Keyboard where
  enabled : Bool
  handler : Word
  handlerValid : Bool
  /-- (scan, ascii), oldest first, at most 16 (R131). -/
  queue : List (Word × Word)
  lastScan : Word
  lastAscii : Word
  deriving DecidableEq, Repr

/-- The text cursor (R141). -/
structure Cursor where
  cx : Word
  cy : Word
  deriving DecidableEq, Repr

/-- Word cells by address: strictly rising addresses, and no cell that holds 0, which is what an unlisted address reads as
(20_memory.md R201, R120: zero-initialised; log entry 9). Both DMEM and the framebuffer are held so. -/
abbrev Memory := List (Nat × Word)

/-- The records of the audio port (R151). -/
inductive AudioRecord where
  | beep
  | tone (freq dur : Word)
  deriving DecidableEq, Repr

/-- The records of the trace port (R152). -/
inductive TraceRecord where
  /-- DEBUG's marker (R1004). -/
  | debugMark (pc : Word)
  /-- A bus record of an executed instruction, of free contents (log entry 11). -/
  | bus (r : BusRecord)
  deriving DecidableEq, Repr

/-- What the host can do (40_execution_cycle.md R412-R419). -/
inductive HostAction where
  /-- Run(program) (R413). -/
  | run (program : List InstrWord)
  /-- Step-start(program) (R414). -/
  | stepStart (program : List InstrWord)
  /-- Step (R415). -/
  | step
  /-- Stop (R416). -/
  | stop
  /-- Reset (R418). -/
  | reset
  /-- A key-down event (R419, R1203). -/
  | key (scan ascii : Word)
  /-- The speed setting: no effect on state (R417). -/
  | speed (setting : Nat)
  deriving DecidableEq, Repr

/-- Whose turn it is (40_execution_cycle.md R421; log entry 2). -/
inductive Turn where
  | engine
  | host (a : HostAction)
  deriving DecidableEq, Repr

/-- The state of the machine (R100). The last four fields are the model's own (INVENTORY.md, State). -/
structure State where
  /-- R0..R7, SP, LR (R101-R103). -/
  regs : Regs
  /-- The instruction index (R107). -/
  pc : Word
  /-- F (R110). -/
  flags : Flags
  /-- RUN (R119). -/
  run : RunState
  /-- DMEM (R120). -/
  dmem : Memory
  /-- IMEM; L is its length (R121). -/
  imem : List InstrWord
  /-- STK, top first (R122). -/
  stk : List Word
  /-- KBD (R130). -/
  kbd : Keyboard
  /-- FB; pixel (x, y) is the cell 128*y + x (R140; log entry 10). -/
  fb : Memory
  /-- CUR (R141). -/
  cur : Cursor
  /-- COLOR (R142). -/
  color : Word
  /-- The output port, oldest record first (R150). -/
  out : List OutRecord
  /-- The audio port, oldest record first (R151). -/
  audio : List AudioRecord
  /-- The trace port, oldest record first (R152). -/
  trace : List TraceRecord
  /-- The OPEN parameters (00_scope.md R7): read, never written (log entry 1). -/
  par : Params
  /-- How many free values were drawn (log entry 6). -/
  draws : Nat
  /-- A Step or Step-start command is still auto-advancing (R415; log entry 4). -/
  advancing : Bool
  /-- The turns still to be taken; when none is left every turn is the engine's (R421; log entry 2). -/
  sched : List Turn
  deriving DecidableEq, Repr

/-- The one fault. The engine itself has none (60_exceptions.md R1200). -/
inductive Fault where
  /-- Raised by a Run or Step-start whose program is longer than the 2^32-1 words that R121 allows: the spec gives such a
  command no effect. Safe (log entry 13). -/
  | programTooLong
  deriving DecidableEq, Repr

/-- The refusals. -/
inductive Refusal where
  /-- Raised by an arm of exec whose instruction has no meaning yet; no arm is one. Safe. -/
  | notModelled (mnemonic : String)
  /-- Raised by a push onto a stack of finite capacity that is full: R123, R124 tell a model to refuse it. Safe (log
  entry 12). -/
  | stackFull
  deriving DecidableEq, Repr

/-- The registers after reset (R1301). -/
def Regs.reset : Regs :=
  { r0 := 0, r1 := 0, r2 := 0, r3 := 0, r4 := 0, r5 := 0, r6 := 0, r7 := 0, sp := 255, lr := 0 }

/-- The flags after reset (R1301). -/
def Flags.reset : Flags := { z := false, c := false, n := false, v := false, i := false }

/-- The keyboard after reset (R1301). -/
def Keyboard.reset : Keyboard :=
  { enabled := false, handler := 0, handlerValid := false, queue := [], lastScan := 0, lastAscii := 0 }

/-- The machine right after reset (R1300, R1301), RUN = IDLE, no program loaded yet (log entry 5), the default parameters
(log entry 1), and the model's own fields as log entries 2, 4 and 6 choose them. -/
def State.reset : State where
  regs := Regs.reset
  pc := 0
  flags := Flags.reset
  run := .idle
  dmem := []
  imem := []
  stk := []
  kbd := Keyboard.reset
  fb := []
  cur := { cx := 0, cy := 0 }
  color := defaultParams.resetColor
  out := []
  audio := []
  trace := []
  par := defaultParams
  draws := 0
  advancing := false
  sched := []

end Sys2Proof.Machine
end

