-- ==== Sys2Proof/Machine/Flags.lean ====
section
/-! DEFINITION. Every flag computation of the spec: setZN (00_scope.md R10), carry and borrow (42_arithmetic.md R601, R602),
the overflow tests (R603, R611, R613), packing (10_state.md R117) and the branch conditions (44_compare_branch.md R810). -/

namespace Sys2Proof.Machine

/-- `setZN(r)` (R10): Z is `r == 0`, N is `r[31]`. -/
def Flags.setZN (f : Flags) (r : Word) : Flags := { f with z := r == 0, n := r.getLsbD 31 }

/-- C written. -/
def Flags.setC (f : Flags) (b : Bool) : Flags := { f with c := b }

/-- V written. -/
def Flags.setV (f : Flags) (b : Bool) : Flags := { f with v := b }

/-- I written. -/
def Flags.setI (f : Flags) (b : Bool) : Flags := { f with i := b }

/-- The carry of an addition (R601): the exact unsigned sum is at least 2^32. -/
def carryOut (a b : Word) : Bool := decide (2 ^ 32 ≤ a.toNat + b.toNat)

/-- The carry of a subtraction or comparison (R602, R801): the unsigned borrow. -/
def borrow (a b : Word) : Bool := decide (a.toNat < b.toNat)

/-- The overflow of a multiplication (R603): the exact unsigned product is at least 2^32. -/
def mulOverflow (a b : Word) : Bool := decide (2 ^ 32 ≤ a.toNat * b.toNat)

/-- The overflow of a negation or absolute value (R613, R614). -/
def negOverflow (a : Word) : Bool := a == minWord

/-- `pack(F)` (R117): zero bit 0, carry bit 1, negative bit 2, overflow bit 3, the rest 0. -/
def Flags.pack (f : Flags) : Word :=
  (BitVec.ofBool f.v ++ BitVec.ofBool f.n ++ BitVec.ofBool f.c ++ BitVec.ofBool f.z).setWidth 32

/-- `unpack(v)` (R117): I is unchanged, bits 31..4 are ignored. -/
def Flags.unpack (f : Flags) (v : Word) : Flags :=
  { f with z := v.getLsbD 0, c := v.getLsbD 1, n := v.getLsbD 2, v := v.getLsbD 3 }

/-- JEQ, JZ (R810). -/
def Flags.condEQ (f : Flags) : Bool := f.z

/-- JNE, JNZ (R810). -/
def Flags.condNE (f : Flags) : Bool := !f.z

/-- JLT (R810). -/
def Flags.condLT (f : Flags) : Bool := f.n && !f.z

/-- JGT (R810). -/
def Flags.condGT (f : Flags) : Bool := !f.n && !f.z

/-- JLE (R810). -/
def Flags.condLE (f : Flags) : Bool := f.n || f.z

/-- JGE (R810). -/
def Flags.condGE (f : Flags) : Bool := !f.n || f.z

/-- JC (R810). -/
def Flags.condC (f : Flags) : Bool := f.c

/-- JNC (R810). -/
def Flags.condNC (f : Flags) : Bool := !f.c

/-- JO (R810). -/
def Flags.condO (f : Flags) : Bool := f.v

/-- JNO (R810). -/
def Flags.condNO (f : Flags) : Bool := !f.v

end Sys2Proof.Machine
end

