-- ==== Sys2Proof/Machine/Ops.lean ====
section
/-! DEFINITION. The named operations over registers, memory, stack and ports (00_scope.md R10), the keyboard interrupt's entry
(60_exceptions.md R1206) and the return from it (47_interrupt.md R1105). -/

namespace Sys2Proof.Machine

/-- An outcome of the machine. -/
abbrev Result := Host.Outcome State Fault Refusal

/-- Go on with `k` where the first part answers a next state. -/
def andThen (o : Result) (k : State → Result) : Result :=
  match o with
  | .next s => k s
  | .fault r => .fault r
  | .refused r => .refused r

/-! Registers. -/

/-- `x[r]` in a register file (R10, R304). -/
def Regs.read (x : Regs) (r : Reg) : Word :=
  match r with
  | .r0 => x.r0
  | .r1 => x.r1
  | .r2 => x.r2
  | .r3 => x.r3
  | .r4 => x.r4
  | .r5 => x.r5
  | .r6 => x.r6
  | .r7 => x.r7
  | .sp => x.sp
  | .lr => x.lr

/-- `x[r] <- v` in a register file (R10, R304). -/
def Regs.write (x : Regs) (r : Reg) (v : Word) : Regs :=
  match r with
  | .r0 => { x with r0 := v }
  | .r1 => { x with r1 := v }
  | .r2 => { x with r2 := v }
  | .r3 => { x with r3 := v }
  | .r4 => { x with r4 := v }
  | .r5 => { x with r5 := v }
  | .r6 => { x with r6 := v }
  | .r7 => { x with r7 := v }
  | .sp => { x with sp := v }
  | .lr => { x with lr := v }

/-- `x[r]` (R10). -/
def State.reg (s : State) (r : Reg) : Word := s.regs.read r

/-- `x[r] <- v` (R10). No register is hard-wired (R105). -/
def State.setReg (s : State) (r : Reg) (v : Word) : State := { s with regs := s.regs.write r v }

/-- The general registers in the order PUSHA pushes them (R905). -/
def generalRegs : List Reg := [.r0, .r1, .r2, .r3, .r4, .r5, .r6, .r7]

/-! Plain updates. -/

/-- The flags written. -/
def State.setFlags (s : State) (f : Flags) : State := { s with flags := f }

/-- `pc <- target`. -/
def State.setPc (s : State) (target : Word) : State := { s with pc := target }

/-- The default `pc <- pc + 1` (R405). -/
def State.advance (s : State) : State := { s with pc := s.pc + 1 }

/-- `RUN <- r` (R119). -/
def State.setRun (s : State) (r : RunState) : State := { s with run := r }

/-- DMEM written. -/
def State.setDmem (s : State) (m : Memory) : State := { s with dmem := m }

/-- STK written, without SP (the stack and SP are independent, R126). -/
def State.setStk (s : State) (l : List Word) : State := { s with stk := l }

/-- KBD written. -/
def State.setKbd (s : State) (k : Keyboard) : State := { s with kbd := k }

/-- FB written. -/
def State.setFb (s : State) (m : Memory) : State := { s with fb := m }

/-- CUR written. -/
def State.setCur (s : State) (c : Cursor) : State := { s with cur := c }

/-- COLOR written. -/
def State.setColor (s : State) (c : Word) : State := { s with color := c }

/-- IMEM and L loaded (R413). -/
def State.setImem (s : State) (p : List InstrWord) : State := { s with imem := p }

/-- `emit(rec)` (R10, R150). -/
def State.emit (s : State) (r : OutRecord) : State := { s with out := s.out ++ [r] }

/-- `audio(rec)` (R10, R151). -/
def State.emitAudio (s : State) (r : AudioRecord) : State := { s with audio := s.audio ++ [r] }

/-- `trace(rec)` (R10, R152). -/
def State.emitTrace (s : State) (r : TraceRecord) : State := { s with trace := s.trace ++ [r] }

/-- `raise Diag(kind, info)`: one record on the output port, nothing else (R1201). -/
def State.raise (s : State) (d : Diag) : State := s.emit (.diag d)

/-- One free value was drawn (log entry 6). -/
def State.drawn (s : State) : State := { s with draws := s.draws + 1 }

/-- Whether a Step command is still auto-advancing (R415; log entry 4). -/
def State.setAdvancing (s : State) (b : Bool) : State := { s with advancing := b }

/-- The number of a diagnostic's kind (R1202); the program never sees it. -/
def Diag.code : Diag → Nat
  | .unknownInstruction _ _ => 1
  | .unknownInt _ => 2
  | .divZero _ => 3
  | .memRange _ _ => 4

/-! Cells. -/

/-- The word at an address; an unlisted one reads as 0 (R120). -/
def Memory.read (m : Memory) (a : Nat) : Word :=
  match m with
  | [] => 0
  | (b, v) :: rest => if a = b then v else Memory.read rest a

/-- A word stored at an address. The canonical form is kept: storing 0 removes the cell. -/
def Memory.write (m : Memory) (a : Nat) (v : Word) : Memory :=
  match m with
  | [] => if v = 0 then [] else [(a, v)]
  | (b, u) :: rest =>
    if a < b then (if v = 0 then (b, u) :: rest else (a, v) :: (b, u) :: rest)
    else if a = b then (if v = 0 then rest else (a, v) :: rest)
    else (b, u) :: Memory.write rest a v

/-- The canonical form: addresses strictly rising, no cell that holds 0. -/
def Memory.wf (m : Memory) : Bool :=
  match m with
  | [] => true
  | (a, v) :: rest => v != 0 && rest.all (fun c => decide (a < c.1)) && Memory.wf rest

/-- Every listed address is below `n`. -/
def Memory.below (m : Memory) (n : Nat) : Bool := m.all (fun c => decide (c.1 < n))

/-- Is a data address in range (R202). -/
def inRange (a : Word) : Bool := decide (a.toNat < 256)

/-- The diagnostic of an out-of-range access, where DIAG_ON_MEM_RANGE asks for it (R203-R205). -/
def reportRange (a : Word) (s : State) : State :=
  if s.par.diagOnMemRange then s.raise (.memRange s.pc a) else s

/-- The value of `MemRead(a, 1)` (R203). -/
def memValue (a : Word) (s : State) : Word := if inRange a then s.dmem.read a.toNat else 0

/-- The effect of `MemRead(a, 1)` beside its value (R203). -/
def afterRead (a : Word) (s : State) : State := if inRange a then s else reportRange a s

/-- `MemWrite(a, 1, v)` (R204). -/
def memWrite (a v : Word) (s : State) : State :=
  if inRange a then s.setDmem (s.dmem.write a.toNat v) else reportRange a s

/-! The stack. -/

/-- The stack has a finite capacity and holds that many entries (R124). -/
def State.stackFull (s : State) : Bool := s.par.stackCapacity == some s.stk.length

/-- The effect of a push that is not refused (R124). -/
def State.pushed (s : State) (v : Word) : State :=
  (s.setStk (v :: s.stk)).setReg .sp (s.reg .sp - 1)

/-- `push(v)` (R124): refused on a full stack of finite capacity. -/
def push (v : Word) (s : State) : Result :=
  if s.stackFull then .refused .stackFull else .next (s.pushed v)

/-- `pop()` (R125): the value and the state after it; `none` on an empty stack, where nothing changes. -/
def pop (s : State) : Option (Word × State) :=
  match s.stk with
  | [] => none
  | v :: rest => some (v, (s.setStk rest).setReg .sp (s.reg .sp + 1))

/-- Values pushed one after the other, refused as a whole if one push is (R905). -/
def pushAll (vs : List Word) (s : State) : Result :=
  match vs with
  | [] => .next s
  | v :: rest => andThen (push v s) (pushAll rest)

/-- Registers popped one after the other; each pop on an empty stack is its own no-op (R906). -/
def popEach (rs : List Reg) (s : State) : State :=
  match rs with
  | [] => s
  | r :: rest =>
    match pop s with
    | some (v, t) => popEach rest (t.setReg r v)
    | none => popEach rest s

/-! The keyboard interrupt. -/

/-- `vector_enabled()` (R1204). -/
def vectorEnabled (s : State) : Bool :=
  s.kbd.enabled && s.kbd.handlerValid && (s.run == .running || s.run == .stepping) &&
    (!s.par.kbdGatedByIf || s.flags.i)

/-- `interrupt_entry()` (R1206): push pc, push the packed flags, go to the handler, set F.I. It ends an auto-advance in progress,
so that the handler's first instruction runs at the next Step command (R1206; log entry 4). -/
def interruptEntry (s : State) : Result :=
  andThen (push s.pc s) fun t =>
    andThen (push t.flags.pack t) fun u =>
      .next (((u.setPc u.kbd.handler).setFlags (u.flags.setI true)).setAdvancing false)

/-- The first pop of IRET: the packed flags (R1105). -/
def popFlags (s : State) : State :=
  match pop s with
  | some (f, t) => t.setFlags (t.flags.unpack f)
  | none => s

/-- A pop into the pc; on an empty stack the pc advances (R904, R1105). -/
def popPc (s : State) : State :=
  match pop s with
  | some (v, t) => t.setPc v
  | none => s.advance

/-- The return from the keyboard interrupt (R1105, R1207): flags, then pc, then F.I becomes IRET_IF_VALUE. -/
def interruptReturn (s : State) : State :=
  let t := popPc (popFlags s)
  t.setFlags (t.flags.setI s.par.iretIfValue)

/-! Reset. -/

/-- What the RESET instruction and external reset have in common: registers, flags, DMEM and STK (R1003, R1302). -/
def resetMachineState (s : State) : State :=
  { s with regs := Regs.reset, flags := Flags.reset, dmem := [], stk := [] }

/-- `external_reset()` (R1300): RUN is set by the command that calls it, IMEM and L are kept. -/
def externalReset (s : State) : State :=
  { resetMachineState s with
    pc := 0, kbd := Keyboard.reset, fb := [], cur := { cx := 0, cy := 0 }, color := s.par.resetColor,
    out := [], audio := [], trace := [] }

end Sys2Proof.Machine
end

