-- ==== Sys2Proof/Machine/Operands.lean ====
section
/-! DEFINITION. Operand forms (30_encoding.md R305, R306) and what instructions make of them: shift amounts and bit indices
(43_logic_bit.md R700), the print value (47_interrupt.md R1106). -/

namespace Sys2Proof.Machine

/-- The value of operand 2 (R306). -/
def op2Value (o : Op2) (s : State) : Word :=
  match o with
  | .reg r => s.reg r
  | .imm v => v

/-- A shift or rotate amount, or a bit index: `op2[4:0]` (R700). -/
def amount (o : Op2) (s : State) : Nat := ((op2Value o s).extractLsb' 0 5).toNat

/-- `1 << n` (R711). -/
def bitMask (n : Nat) : Word := 1#32 <<< n

/-- `pval` (R1106): R7, or R1 where R7 is 0. -/
def printValue (s : State) : Word := if s.reg .r7 = 0 then s.reg .r1 else s.reg .r7

end Sys2Proof.Machine
end

