-- ==== Sys2Proof/Machine/Arith.lean ====
section
/-! DEFINITION. The arithmetic instructions (42_arithmetic.md). Each shared operation takes the operand values, so that the
register and the immediate form of an instruction are one line each. -/

namespace Sys2Proof.Machine

/-- The common ending (R600): `x[Rd] <- r`, Z and N from `r` over the flags `f`, pc advanced. -/
def finish (rd : Reg) (r : Word) (f : Flags) (s : State) : State :=
  ((s.setReg rd r).setFlags (f.setZN r)).advance

/-- Addition (R601). -/
def addOp (rd : Reg) (a b : Word) (s : State) : Result :=
  .next (finish rd (a + b) (s.flags.setC (carryOut a b)) s)

/-- Subtraction (R602). -/
def subOp (rd : Reg) (a b : Word) (s : State) : Result :=
  .next (finish rd (a - b) (s.flags.setC (borrow a b)) s)

/-- Multiplication (R603). -/
def mulOp (rd : Reg) (a b : Word) (s : State) : Result :=
  .next (finish rd (a * b) (s.flags.setV (mulOverflow a b)) s)

/-- `q(n, d)` (R604), for `d ≠ 0`. -/
def quotient (r : Rounding) (n d : Int) : Int :=
  match r with
  | .trunc => n.tdiv d
  | .floor => n.fdiv d

/-- The diagnostic of a division by zero, where DIAG_ON_DIV0 asks for it (R604). -/
def reportDivZero (s : State) : State :=
  if s.par.diagOnDiv0 then s.raise (.divZero s.pc) else s

/-- Division or remainder by zero (R604, R605): the result is 0, the flags as DIV0_FLAGS says. -/
def divByZero (rd : Reg) (s : State) : State :=
  match s.par.div0Flags with
  | .set => finish rd 0 (s.flags.setV true) (reportDivZero s)
  | .leave => ((reportDivZero s).setReg rd 0).advance

/-- Division (R604). -/
def divOp (rd : Reg) (a b : Word) (s : State) : Result :=
  if b = 0 then .next (divByZero rd s)
  else if a = minWord ∧ b = minusOne then .next (finish rd minWord (s.flags.setV true) s)
  else
    .next (finish rd (BitVec.ofInt 32 (quotient s.par.divRounding a.toInt b.toInt)) (s.flags.setV false) s)

/-- Remainder (R605). -/
def modOp (rd : Reg) (a b : Word) (s : State) : Result :=
  if b = 0 then .next (divByZero rd s)
  else
    .next (finish rd (BitVec.ofInt 32 (a.toInt - b.toInt * quotient s.par.divRounding a.toInt b.toInt))
      (s.flags.setV false) s)

/-- The low 32 bits of `u(a) ^ e`, by squaring, for `e < 2^n`: `n` rounds. -/
def powWord (n : Nat) (a : Word) (e : Nat) : Word :=
  match n with
  | 0 => 1
  | n + 1 =>
    let h := powWord n (a * a) (e / 2)
    if e % 2 = 1 then a * h else h

/-- Does the exact `u(a) ^ e` reach 2^32, without forming it (R611, corner cases). -/
def powOverflow (a : Word) (e : Nat) : Bool :=
  decide (2 ≤ a.toNat) && (decide (32 ≤ e) || decide (2 ^ 32 ≤ a.toNat ^ (min e 32)))

/-- The result of POW for a negative exponent `e` (R611). -/
def powNegative (a : Word) (e : Int) : Word :=
  if a.toInt = 1 then 1 else if a.toInt = -1 then (if e % 2 = 0 then 1 else minusOne) else 0

/-- Power (R611). -/
def powOp (rd : Reg) (a b : Word) (s : State) : Result :=
  if 0 ≤ b.toInt then
    .next (finish rd (powWord 31 a b.toInt.toNat) (s.flags.setV (powOverflow a b.toInt.toNat)) s)
  else .next (finish rd (powNegative a b.toInt) (s.flags.setV false) s)

/-- The bits of the square root of `n` below bit `k`, found from the highest, added to `r`. -/
def rootFrom (k n r : Nat) : Nat :=
  match k with
  | 0 => r
  | k + 1 => if (r + 2 ^ k) * (r + 2 ^ k) ≤ n then rootFrom k n (r + 2 ^ k) else rootFrom k n r

/-- The largest integer whose square is at most `u(a)` (R612); it is below 2^16. -/
def rootWord (a : Word) : Word := BitVec.ofNat 32 (rootFrom 16 a.toNat 0)

/-- ADD (R601). -/
def execAdd (rd ra rb : Reg) (s : State) : Result := addOp rd (s.reg ra) (s.reg rb) s

/-- SUB (R602). -/
def execSub (rd ra rb : Reg) (s : State) : Result := subOp rd (s.reg ra) (s.reg rb) s

/-- MUL (R603). -/
def execMul (rd ra rb : Reg) (s : State) : Result := mulOp rd (s.reg ra) (s.reg rb) s

/-- DIV (R604). -/
def execDiv (rd ra rb : Reg) (s : State) : Result := divOp rd (s.reg ra) (s.reg rb) s

/-- MOD (R605). -/
def execMod (rd ra rb : Reg) (s : State) : Result := modOp rd (s.reg ra) (s.reg rb) s

/-- ADDI (R606). -/
def execAddi (rd ra : Reg) (imm : Word) (s : State) : Result := addOp rd (s.reg ra) imm s

/-- SUBI (R607). -/
def execSubi (rd ra : Reg) (imm : Word) (s : State) : Result := subOp rd (s.reg ra) imm s

/-- MULI (R608). -/
def execMuli (rd ra : Reg) (imm : Word) (s : State) : Result := mulOp rd (s.reg ra) imm s

/-- DIVI (R609). -/
def execDivi (rd ra : Reg) (imm : Word) (s : State) : Result := divOp rd (s.reg ra) imm s

/-- MODI (R610). -/
def execModi (rd ra : Reg) (imm : Word) (s : State) : Result := modOp rd (s.reg ra) imm s

/-- POW (R611). -/
def execPow (rd ra rb : Reg) (s : State) : Result := powOp rd (s.reg ra) (s.reg rb) s

/-- SQRT (R612). -/
def execSqrt (rd ra : Reg) (s : State) : Result := .next (finish rd (rootWord (s.reg ra)) s.flags s)

/-- ABS (R613). -/
def execAbs (rd ra : Reg) (s : State) : Result :=
  let a := s.reg ra
  .next (finish rd (if a.toInt < 0 then 0 - a else a) (s.flags.setV (negOverflow a)) s)

/-- NEG (R614). -/
def execNeg (rd ra : Reg) (s : State) : Result :=
  let a := s.reg ra
  .next (finish rd (0 - a) (s.flags.setV (negOverflow a)) s)

/-- INC (R615). -/
def execInc (rd : Reg) (s : State) : Result := .next (finish rd (s.reg rd + 1) s.flags s)

/-- DEC (R616). -/
def execDec (rd : Reg) (s : State) : Result := .next (finish rd (s.reg rd - 1) s.flags s)

end Sys2Proof.Machine
end

