-- ==== Sys2Proof/Machine/Branch.lean ====
section
/-! DEFINITION. The branches (44_compare_branch.md R810-R823): a taken one assigns pc, any other advances it. -/

namespace Sys2Proof.Machine

/-- `if cond(F): next_pc <- imm` (R810). -/
def branchIf (taken : Bool) (target : Word) (s : State) : Result :=
  .next (if taken then s.setPc target else s.advance)

/-- JMP (R811). -/
def execJmp (target : Word) (s : State) : Result := .next (s.setPc target)

/-- JEQ (R812). -/
def execJeq (target : Word) (s : State) : Result := branchIf s.flags.condEQ target s

/-- JZ (R813). -/
def execJz (target : Word) (s : State) : Result := branchIf s.flags.condEQ target s

/-- JNE (R814). -/
def execJne (target : Word) (s : State) : Result := branchIf s.flags.condNE target s

/-- JNZ (R815). -/
def execJnz (target : Word) (s : State) : Result := branchIf s.flags.condNE target s

/-- JLT (R816). -/
def execJlt (target : Word) (s : State) : Result := branchIf s.flags.condLT target s

/-- JGT (R817). -/
def execJgt (target : Word) (s : State) : Result := branchIf s.flags.condGT target s

/-- JLE (R818). -/
def execJle (target : Word) (s : State) : Result := branchIf s.flags.condLE target s

/-- JGE (R819). -/
def execJge (target : Word) (s : State) : Result := branchIf s.flags.condGE target s

/-- JC (R820). -/
def execJc (target : Word) (s : State) : Result := branchIf s.flags.condC target s

/-- JNC (R821). -/
def execJnc (target : Word) (s : State) : Result := branchIf s.flags.condNC target s

/-- JO (R822). -/
def execJo (target : Word) (s : State) : Result := branchIf s.flags.condO target s

/-- JNO (R823). -/
def execJno (target : Word) (s : State) : Result := branchIf s.flags.condNO target s

end Sys2Proof.Machine
end

