-- ==== Sys2Proof/Machine/Compare.lean ====
section
/-! DEFINITION. The compare instructions (44_compare_branch.md R800-R804): Z, N and C, no register, no V. -/

namespace Sys2Proof.Machine

/-- The comparison of two values (R801). -/
def cmpOp (a b : Word) (s : State) : Result :=
  .next (s.setFlags ((s.flags.setC (borrow a b)).setZN (a - b))).advance

/-- The bitwise test of two values (R803): C becomes 0. -/
def testOp (a b : Word) (s : State) : Result :=
  .next (s.setFlags ((s.flags.setC false).setZN (a &&& b))).advance

/-- CMP (R801). -/
def execCmp (ra rb : Reg) (s : State) : Result := cmpOp (s.reg ra) (s.reg rb) s

/-- CMPI (R802). -/
def execCmpi (ra : Reg) (imm : Word) (s : State) : Result := cmpOp (s.reg ra) imm s

/-- TEST (R803). -/
def execTest (ra rb : Reg) (s : State) : Result := testOp (s.reg ra) (s.reg rb) s

/-- TESTI (R804). -/
def execTesti (ra : Reg) (imm : Word) (s : State) : Result := testOp (s.reg ra) imm s

end Sys2Proof.Machine
end

