-- ==== Sys2Proof/Machine/Control.lean ====
section
/-! DEFINITION. The control instructions (46_control.md). -/

namespace Sys2Proof.Machine

/-- NOP (R1001): B changes nothing here. -/
def execNop (_blank : Bool) (s : State) : Result := .next s.advance

/-- HALT (R1002): the marker, RUN = HALTED, pc kept. -/
def execHalt (s : State) : Result := .next ((s.emit .haltMarker).setRun .halted)

/-- RESET (R1003). -/
def execReset (s : State) : Result := .next (resetMachineState s).advance

/-- DEBUG (R1004): a trace record only. -/
def execDebug (s : State) : Result := .next (s.emitTrace (.debugMark s.pc)).advance

end Sys2Proof.Machine
end

