-- ==== Sys2Proof/Machine/DataMove.lean ====
section
/-! DEFINITION. The data movement instructions (41_data_movement.md): no flag is written, pc advances by 1 (R500). -/

namespace Sys2Proof.Machine

/-- A register written and pc advanced. -/
def writeReg (rd : Reg) (v : Word) (s : State) : Result := .next (s.setReg rd v).advance

/-- A load from data address `a` (R203, R500). -/
def loadFrom (rd : Reg) (a : Word) (s : State) : Result := writeReg rd (memValue a s) (afterRead a s)

/-- A store to data address `a` (R204, R500). -/
def storeTo (a v : Word) (s : State) : Result := .next (memWrite a v s).advance

/-- LOAD (R501). -/
def execLoad (rd : Reg) (imm : Word) (s : State) : Result := writeReg rd imm s

/-- MOV (R502). -/
def execMov (rd rs : Reg) (s : State) : Result := writeReg rd (s.reg rs) s

/-- LDR (R503): immediate absolute. -/
def execLdr (rd : Reg) (addr : Word) (s : State) : Result := loadFrom rd addr s

/-- STR (R504): immediate absolute. -/
def execStr (rs : Reg) (addr : Word) (s : State) : Result := storeTo addr (s.reg rs) s

/-- LDRI (R505): register indirect. -/
def execLdri (rd ra : Reg) (s : State) : Result := loadFrom rd (s.reg ra) s

/-- STRI (R506): register indirect. -/
def execStri (rs ra : Reg) (s : State) : Result := storeTo (s.reg ra) (s.reg rs) s

/-- LEA (R507): the address itself, no access. -/
def execLea (rd : Reg) (addr : Word) (s : State) : Result := writeReg rd addr s

/-- SWAP (R508). -/
def execSwap (ra rb : Reg) (s : State) : Result :=
  .next ((s.setReg ra (s.reg rb)).setReg rb (s.reg ra)).advance

end Sys2Proof.Machine
end

