-- ==== Sys2Proof/Machine/Keyboard.lean ====
section
/-! DEFINITION. The keyboard services (47_interrupt.md R1125-R1133) and the key event (60_exceptions.md R1203). -/

namespace Sys2Proof.Machine

/-- KBD_ENABLE (R1125). -/
def kbdEnable (s : State) : State := s.setKbd { s.kbd with enabled := true }

/-- KBD_DISABLE (R1126). -/
def kbdDisable (s : State) : State := s.setKbd { s.kbd with enabled := false }

/-- KBD_SET_HANDLER (R1127): not checked. -/
def kbdSetHandler (s : State) : State := s.setKbd { s.kbd with handler := s.reg .r0, handlerValid := true }

/-- KBD_SCANCODE (R1128). -/
def kbdScancode (s : State) : State := s.setReg .r0 s.kbd.lastScan

/-- KBD_ASCII (R1129). -/
def kbdAscii (s : State) : State := s.setReg .r0 s.kbd.lastAscii

/-- KBD_READ (R1130): the oldest entry's ASCII code, 0 on an empty queue. -/
def kbdRead (s : State) : State :=
  match s.kbd.queue with
  | (_, a) :: rest => (s.setReg .r0 a).setKbd { s.kbd with queue := rest }
  | [] => s.setReg .r0 0

/-- KBD_STATUS (R1131). -/
def kbdStatus (s : State) : State := s.setReg .r0 (if s.kbd.queue.isEmpty then 0 else 1)

/-- KBD_BUFSIZE (R1132). -/
def kbdBufsize (s : State) : State := s.setReg .r0 (BitVec.ofNat 32 s.kbd.queue.length)

/-- KBD_CLEAR (R1133). -/
def kbdClear (s : State) : State := s.setKbd { s.kbd with queue := [] }

/-- What a key event does to the keyboard device (R1203): a full queue drops the event from the queue only (R131). -/
def keyPressed (scan ascii : Word) (k : Keyboard) : Keyboard :=
  { k with
    lastScan := scan, lastAscii := ascii,
    queue := if k.queue.length < 16 then k.queue ++ [(scan, ascii)] else k.queue }

/-- `KeyEvent(scan, ascii)` (R1203): the device, then the interrupt's entry where it is enabled (R1204). -/
def keyEvent (scan ascii : Word) (s : State) : Result :=
  let t := s.setKbd (keyPressed scan ascii s.kbd)
  if vectorEnabled t then interruptEntry t else .next t

end Sys2Proof.Machine
end

