-- ==== Sys2Proof/Machine/Screen.lean ====
section
/-! DEFINITION. The screen services of the interrupt dispatcher (47_interrupt.md R1112-R1124). Coordinates are mathematical
integers, read signed from registers (R1112). -/

namespace Sys2Proof.Machine

/-- A point: column, row. -/
abbrev Point := Int × Int

/-- Is the point on the 128 by 64 screen (R1112). -/
def onScreen (p : Point) : Bool :=
  decide (0 ≤ p.1) && decide (p.1 < 128) && decide (0 ≤ p.2) && decide (p.2 < 64)

/-- The framebuffer cell of an on-screen point (R140; log entry 10). -/
def pixelCell (p : Point) : Nat := 128 * p.2.toNat + p.1.toNat

/-- `FB[py][px]`, 0 off the screen (R1115). -/
def pixel (fb : Memory) (p : Point) : Word := if onScreen p then fb.read (pixelCell p) else 0

/-- `plot(px, py, c)` (R1112): clipped silently. -/
def plot (fb : Memory) (p : Point) (c : Word) : Memory :=
  if onScreen p then fb.write (pixelCell p) c else fb

/-- Every point plotted in one colour, the last one first: in one colour the order changes nothing. -/
def plotAll (ps : List Point) (c : Word) (fb : Memory) : Memory := ps.foldr (fun p m => plot m p c) fb

/-- `s(x[r])` (R1112). -/
def State.coord (s : State) (r : Reg) : Int := (s.reg r).toInt

/-- Points plotted in the active colour. -/
def drawPoints (ps : List Point) (s : State) : State := s.setFb (plotAll ps s.color s.fb)

/-! Lines (R1117, R1118). -/

/-- The loop of the default LinePixels (R1118), at most `n` rounds. -/
def bresenhamFrom (n : Nat) (x y x1 y1 dx dy sx sy err : Int) : List Point :=
  match n with
  | 0 => []
  | n + 1 =>
    (x, y) ::
      (if x = x1 ∧ y = y1 then []
       else
         let e2 := 2 * err
         let err1 := if e2 ≥ dy then err + dy else err
         let nx := if e2 ≥ dy then x + sx else x
         let err2 := if e2 ≤ dx then err1 + dx else err1
         let ny := if e2 ≤ dx then y + sy else y
         bresenhamFrom n nx ny x1 y1 dx dy sx sy err2)

/-- The default LinePixels (R1118). Every round moves one or both coordinates one step towards the end, so the rounds are
at most the sum of the distances, and one. -/
def bresenhamLine (x0 y0 x1 y1 : Int) : List Point :=
  let dx : Int := (x1 - x0).natAbs
  let dy : Int := -((y1 - y0).natAbs : Int)
  bresenhamFrom ((x1 - x0).natAbs + (y1 - y0).natAbs + 1) x0 y0 x1 y1 dx dy
    (if x0 < x1 then 1 else -1) (if y0 < y1 then 1 else -1) (dx + dy)

/-- The two lists hold the same points. -/
def samePoints (ps qs : List Point) : Bool := ps.all qs.contains && qs.all ps.contains

/-- Two points are the same or 8-neighbours. -/
def adjacent (p q : Point) : Bool := decide ((p.1 - q.1).natAbs ≤ 1) && decide ((p.2 - q.2).natAbs ≤ 1)

/-- The points of `ps` reached from `seen` over 8-neighbours in `n` rounds. -/
def reached (n : Nat) (ps seen : List Point) : List Point :=
  match n with
  | 0 => seen
  | n + 1 => reached n ps (ps.filter fun p => seen.any (adjacent p))

/-- The set of points is 8-connected (R1118). -/
def connected8 (ps : List Point) : Bool :=
  match ps with
  | [] => true
  | p :: _ => ps.all (reached ps.length ps [p]).contains

/-- A horizontal, vertical or 45-degree line (R1118). -/
def isStraight (x0 y0 x1 y1 : Int) : Bool :=
  decide (x0 = x1) || decide (y0 = y1) || decide ((x1 - x0).natAbs = (y1 - y0).natAbs)

/-- The exact straight run of a horizontal, vertical or 45-degree line (R1118). -/
def straightRun (x0 y0 x1 y1 : Int) : List Point :=
  (List.range (max (x1 - x0).natAbs (y1 - y0).natAbs + 1)).map
    fun i => (x0 + (x1 - x0).sign * (i : Int), y0 + (y1 - y0).sign * (i : Int))

/-- The properties every LinePixels must keep (R1118). -/
def lineOk (ps : List Point) (x0 y0 x1 y1 : Int) : Bool :=
  ps.contains (x0, y0) && ps.contains (x1, y1) && connected8 ps &&
    (!isStraight x0 y0 x1 y1 || samePoints ps (straightRun x0 y0 x1 y1))

/-- `LinePixels` as the parameter chooses it (R1118): another algorithm counts where it keeps the demanded properties, else
the default stands (log entry 8). -/
def linePixels (alg : LineAlgorithm) (x0 y0 x1 y1 : Int) : List Point :=
  match alg with
  | .bresenham => bresenhamLine x0 y0 x1 y1
  | .other k =>
    if lineOk (Config.otherLine k x0 y0 x1 y1) x0 y0 x1 y1 then Config.otherLine k x0 y0 x1 y1
    else bresenhamLine x0 y0 x1 y1

/-! Circles (R1121, R1122). -/

/-- The eight points the circle algorithm yields in one round (R1122). -/
def octants (cx cy x y : Int) : List Point :=
  [(cx + x, cy + y), (cx - x, cy + y), (cx + x, cy - y), (cx - x, cy - y),
   (cx + y, cy + x), (cx - y, cy + x), (cx + y, cy - x), (cx - y, cy - x)]

/-- The loop of the default CirclePixels (R1122), at most `n` rounds. -/
def midpointFrom (n : Nat) (cx cy x y err : Int) : List Point :=
  match n with
  | 0 => []
  | n + 1 =>
    if y ≤ x then
      octants cx cy x y ++
        (let y1 := y + 1
         if err < 0 then midpointFrom n cx cy x y1 (err + 2 * y1 + 1)
         else midpointFrom n cx cy (x - 1) y1 (err + 2 * (y1 - (x - 1)) + 1))
    else []

/-- The default CirclePixels (R1122). `y` grows by 1 a round and `x` never grows, so there are at most r + 1 rounds. -/
def midpointCircle (cx cy : Int) (r : Nat) : List Point := midpointFrom (r + 1) cx cy r 0 (1 - (r : Int))

/-- The set is symmetric in all eight octants about the centre (R1122). -/
def octantSymmetric (ps : List Point) (cx cy : Int) : Bool :=
  ps.all fun p => (octants cx cy (p.1 - cx) (p.2 - cy)).all ps.contains

/-- The properties every CirclePixels must keep (R1122). -/
def circleOk (ps : List Point) (cx cy : Int) (r : Nat) : Bool :=
  octantSymmetric ps cx cy &&
    ps.contains (cx + r, cy) && ps.contains (cx - r, cy) && ps.contains (cx, cy + r) && ps.contains (cx, cy - r) &&
    (decide (r ≠ 0) || samePoints ps [(cx, cy)])

/-- `CirclePixels` as the parameter chooses it (R1122), as for lines (log entry 8). -/
def circlePixels (alg : CircleAlgorithm) (cx cy : Int) (r : Nat) : List Point :=
  match alg with
  | .midpoint => midpointCircle cx cy r
  | .other k =>
    if circleOk (Config.otherCircle k cx cy r) cx cy r then Config.otherCircle k cx cy r
    else midpointCircle cx cy r

/-! Rectangles (R1119, R1120). -/

/-- The numbers of `lo .. lo+len-1` that lie in `0 .. bound-1`: the rest is off the screen, where a plot does nothing. -/
def clipped (lo len : Int) (bound : Nat) : List Int :=
  ((List.range bound).map Int.ofNat).filter fun i => decide (lo ≤ i) && decide (i < lo + len)

/-- The outline of a rectangle, clipped to the screen (R1119). -/
def rectOutline (x0 y0 wd ht : Int) : List Point :=
  if 0 < wd ∧ 0 < ht then
    (clipped x0 wd 128).flatMap (fun px => [(px, y0), (px, y0 + ht - 1)]) ++
      (clipped y0 ht 64).flatMap (fun py => [(x0, py), (x0 + wd - 1, py)])
  else []

/-- A filled rectangle, clipped to the screen (R1120). -/
def rectFilled (x0 y0 wd ht : Int) : List Point :=
  if 0 < wd ∧ 0 < ht then
    (clipped y0 ht 64).flatMap fun py => (clipped x0 wd 128).map fun px => (px, py)
  else []

/-! The services. -/

/-- SCREEN_CLEAR (R1113). -/
def screenClear (s : State) : State := s.setFb []

/-- SCREEN_SET_PIXEL (R1114): the colour comes from R2. -/
def screenSetPixel (s : State) : State := s.setFb (plot s.fb (s.coord .r0, s.coord .r1) (s.reg .r2))

/-- SCREEN_GET_PIXEL (R1115). -/
def screenGetPixel (s : State) : State := s.setReg .r0 (pixel s.fb (s.coord .r0, s.coord .r1))

/-- SCREEN_SET_COLOR (R1116). -/
def screenSetColor (s : State) : State := s.setColor (s.reg .r0)

/-- SCREEN_DRAW_LINE (R1117). -/
def screenDrawLine (s : State) : State :=
  drawPoints (linePixels s.par.lineAlgorithm (s.coord .r0) (s.coord .r1) (s.coord .r2) (s.coord .r3)) s

/-- SCREEN_DRAW_RECT (R1119). -/
def screenDrawRect (s : State) : State :=
  drawPoints (rectOutline (s.coord .r0) (s.coord .r1) (s.coord .r2) (s.coord .r3)) s

/-- SCREEN_FILL_RECT (R1120). -/
def screenFillRect (s : State) : State :=
  drawPoints (rectFilled (s.coord .r0) (s.coord .r1) (s.coord .r2) (s.coord .r3)) s

/-- SCREEN_DRAW_CIRCLE (R1121): a negative radius draws nothing. -/
def screenDrawCircle (s : State) : State :=
  if 0 ≤ s.coord .r2 then
    drawPoints (circlePixels s.par.circleAlgorithm (s.coord .r0) (s.coord .r1) (s.coord .r2).toNat) s
  else s

/-- SCREEN_SET_CURSOR (R1123): stored as given. -/
def screenSetCursor (s : State) : State := s.setCur { cx := s.reg .r0, cy := s.reg .r1 }

/-- The framebuffer `ScreenPutChar` leaves (R1124): free plots, each in COLOR or in 0, in order (log entry 7). -/
def putCharFb (fb : Memory) (cur : Cursor) (color ch : Word) : Memory :=
  (Config.putCharPlots fb (cur.cx, cur.cy) color ch).foldl
    (fun m p => plot m p.1 (if p.2 then color else 0)) fb

/-- The cursor `ScreenPutChar` leaves (R1124): free (log entry 7). -/
def putCharCur (fb : Memory) (cur : Cursor) (color ch : Word) : Cursor :=
  { cx := (Config.putCharCursor fb (cur.cx, cur.cy) color ch).1,
    cy := (Config.putCharCursor fb (cur.cx, cur.cy) color ch).2 }

/-- SCREEN_PRINT_CHAR (R1124): it changes only FB and CUR. -/
def screenPrintChar (s : State) : State :=
  (s.setFb (putCharFb s.fb s.cur s.color (s.reg .r0))).setCur (putCharCur s.fb s.cur s.color (s.reg .r0))

end Sys2Proof.Machine
end

