-- ==== Sys2Proof/Machine/Interrupt.lean ====
section
/-! DEFINITION. The interrupt dispatcher and the interrupt instructions (47_interrupt.md). -/

namespace Sys2Proof.Machine

/-- PRINT_CHAR (R1107). -/
def printChar (s : State) : State := s.emit (.char (printValue s))

/-- PRINT_NUM (R1108). -/
def printNum (s : State) : State := s.emit (.num (printValue s))

/-- PRINT_HEX (R1109). -/
def printHex (s : State) : State := s.emit (.hex (printValue s))

/-- PRINT_BIN (R1110). -/
def printBin (s : State) : State := s.emit (.bin (printValue s))

/-- RANDOM (R1134): a free draw, a fresh one each time (log entry 6). -/
def randomNumber (s : State) : State := (s.setReg .r0 (Config.randomDraw s.draws)).drawn

/-- GET_TIME (R1135): a free draw, a fresh one each time (log entry 6). -/
def getTime (s : State) : State := (s.setReg .r0 (Config.timeDraw s.draws)).drawn

/-- BEEP (R1136). -/
def beep (s : State) : State := s.emitAudio .beep

/-- PLAY_TONE (R1137). -/
def playTone (s : State) : State := s.emitAudio (.tone (s.reg .r0) (s.reg .r1))

/-- A service of the dispatcher (R1100, R1101). -/
def performService (svc : Service) (s : State) : State :=
  match svc with
  | .printChar => printChar s
  | .printNum => printNum s
  | .printHex => printHex s
  | .printBin => printBin s
  | .screenClear => screenClear s
  | .screenSetPixel => screenSetPixel s
  | .screenGetPixel => screenGetPixel s
  | .screenSetColor => screenSetColor s
  | .screenDrawLine => screenDrawLine s
  | .screenDrawRect => screenDrawRect s
  | .screenFillRect => screenFillRect s
  | .screenDrawCircle => screenDrawCircle s
  | .screenSetCursor => screenSetCursor s
  | .screenPrintChar => screenPrintChar s
  | .kbdEnable => kbdEnable s
  | .kbdDisable => kbdDisable s
  | .kbdSetHandler => kbdSetHandler s
  | .kbdScancode => kbdScancode s
  | .kbdAscii => kbdAscii s
  | .kbdRead => kbdRead s
  | .kbdStatus => kbdStatus s
  | .kbdBufsize => kbdBufsize s
  | .kbdClear => kbdClear s
  | .random => randomNumber s
  | .getTime => getTime s
  | .beep => beep s
  | .playTone => playTone s

/-- The service of an interrupt number (R1101). -/
def serviceOf (n : Word) (s : State) : Option Service := s.par.intMap.lookup n

/-- INT (R1102, R1138). -/
def execInt (n : Word) (s : State) : Result :=
  match serviceOf n s with
  | some svc => .next (performService svc s).advance
  | none => .next (s.raise (.unknownInt n)).advance

/-- CLI (R1103). -/
def execCli (s : State) : Result := .next (s.setFlags (s.flags.setI false)).advance

/-- STI (R1104). -/
def execSti (s : State) : Result := .next (s.setFlags (s.flags.setI true)).advance

/-- IRET (R1105). -/
def execIret (s : State) : Result := .next (interruptReturn s)

end Sys2Proof.Machine
end

