-- ==== Sys2Proof/Machine/Logic.lean ====
section
/-! DEFINITION. The logic, shift, rotate and bit-manipulation instructions (43_logic_bit.md): Z and N from the result, C and V
unchanged, pc advanced by 1 (R700). -/

namespace Sys2Proof.Machine

/-- A result written with its Z and N (R700). -/
def logicOp (rd : Reg) (r : Word) (s : State) : Result := .next (finish rd r s.flags s)

/-- Rotate left by `n < 32`, by the complementary shift (R709). -/
def rotLeft (a : Word) (n : Nat) : Word := if n = 0 then a else (a <<< n) ||| (a >>> (32 - n))

/-- Rotate right by `n < 32`, by the complementary shift (R710). -/
def rotRight (a : Word) (n : Nat) : Word := if n = 0 then a else (a >>> n) ||| (a <<< (32 - n))

/-- The rounds of POPCNT's loop, clearing the lowest bit each time, at most `k` of them (R715). -/
def popcountFrom (k : Nat) (v : Word) : Nat :=
  match k with
  | 0 => 0
  | k + 1 => if v = 0 then 0 else popcountFrom k (v &&& (v - 1)) + 1

/-- The consecutive zero bits of `v` from bit `k - 1` downward (R716). -/
def leadingZerosFrom (k : Nat) (v : Word) : Nat :=
  match k with
  | 0 => 0
  | k + 1 => if v.getLsbD k then 0 else leadingZerosFrom k v + 1

/-- AND (R701). -/
def execAnd (rd ra rb : Reg) (s : State) : Result := logicOp rd (s.reg ra &&& s.reg rb) s

/-- OR (R702). -/
def execOr (rd ra rb : Reg) (s : State) : Result := logicOp rd (s.reg ra ||| s.reg rb) s

/-- XOR (R703). -/
def execXor (rd ra rb : Reg) (s : State) : Result := logicOp rd (s.reg ra ^^^ s.reg rb) s

/-- NOT (R704). -/
def execNot (rd ra : Reg) (s : State) : Result := logicOp rd (~~~ s.reg ra) s

/-- NAND (R705). -/
def execNand (rd ra rb : Reg) (s : State) : Result := logicOp rd (~~~ (s.reg ra &&& s.reg rb)) s

/-- NOR (R706). -/
def execNor (rd ra rb : Reg) (s : State) : Result := logicOp rd (~~~ (s.reg ra ||| s.reg rb)) s

/-- SHL (R707). -/
def execShl (rd ra : Reg) (o : Op2) (s : State) : Result := logicOp rd (s.reg ra <<< amount o s) s

/-- SHR (R708): zeros enter at bit 31. -/
def execShr (rd ra : Reg) (o : Op2) (s : State) : Result := logicOp rd (s.reg ra >>> amount o s) s

/-- ROL (R709). -/
def execRol (rd ra : Reg) (o : Op2) (s : State) : Result := logicOp rd (rotLeft (s.reg ra) (amount o s)) s

/-- ROR (R710). -/
def execRor (rd ra : Reg) (o : Op2) (s : State) : Result := logicOp rd (rotRight (s.reg ra) (amount o s)) s

/-- SETBIT (R711). -/
def execSetbit (rd : Reg) (o : Op2) (s : State) : Result := logicOp rd (s.reg rd ||| bitMask (amount o s)) s

/-- CLRBIT (R712). -/
def execClrbit (rd : Reg) (o : Op2) (s : State) : Result := logicOp rd (s.reg rd &&& ~~~ bitMask (amount o s)) s

/-- TOGBIT (R713). -/
def execTogbit (rd : Reg) (o : Op2) (s : State) : Result := logicOp rd (s.reg rd ^^^ bitMask (amount o s)) s

/-- TESTBIT (R714): Z and N only, no register. -/
def execTestbit (ra : Reg) (o : Op2) (s : State) : Result :=
  .next (s.setFlags (s.flags.setZN (s.reg ra &&& bitMask (amount o s)))).advance

/-- POPCNT (R715): the loop runs at most 32 times. -/
def execPopcnt (rd ra : Reg) (s : State) : Result :=
  logicOp rd (BitVec.ofNat 32 (popcountFrom 32 (s.reg ra))) s

/-- CLZ (R716). -/
def execClz (rd ra : Reg) (s : State) : Result :=
  logicOp rd (BitVec.ofNat 32 (leadingZerosFrom 32 (s.reg ra))) s

end Sys2Proof.Machine
end

