-- ==== Sys2Proof/Machine/Stack.lean ====
section
/-! DEFINITION. The stack instructions (45_stack.md). -/

namespace Sys2Proof.Machine

/-- PUSH (R901): the value is read before SP is decremented. -/
def execPush (rs : Reg) (s : State) : Result := andThen (push (s.reg rs) s) fun t => .next t.advance

/-- POP (R902): the register is written after SP is incremented; nothing on an empty stack. -/
def execPop (rd : Reg) (s : State) : Result :=
  match pop s with
  | some (v, t) => .next (t.setReg rd v).advance
  | none => .next s.advance

/-- CALL (R903). -/
def execCall (target : Word) (s : State) : Result := andThen (push (s.pc + 1) s) fun t => .next (t.setPc target)

/-- RET (R904). -/
def execRet (s : State) : Result := .next (popPc s)

/-- PUSHA (R905): all eight values are read first. -/
def execPusha (s : State) : Result := andThen (pushAll (generalRegs.map s.reg) s) fun t => .next t.advance

/-- POPA (R906): R7 down to R0. -/
def execPopa (s : State) : Result := .next (popEach generalRegs.reverse s).advance

/-- PUSHF (R907). -/
def execPushf (s : State) : Result := andThen (push s.flags.pack s) fun t => .next t.advance

/-- POPF (R908). -/
def execPopf (s : State) : Result := .next (popFlags s).advance

end Sys2Proof.Machine
end

