-- ==== Sys2Proof/Machine/Dispatch.lean ====
section
/-! DEFINITION. One arm per instruction (40_execution_cycle.md R404, 30_encoding.md R310). -/

namespace Sys2Proof.Machine

def exec (i : Instr) (s : State) : Host.Outcome State Fault Refusal :=
  match i with
  | .nop blank => Sys2Proof.Machine.execNop blank s
  | .halt => Sys2Proof.Machine.execHalt s
  | .reset => Sys2Proof.Machine.execReset s
  | .debug => Sys2Proof.Machine.execDebug s
  | .load rd imm => Sys2Proof.Machine.execLoad rd imm s
  | .mov rd ra => Sys2Proof.Machine.execMov rd ra s
  | .ldr rd imm => Sys2Proof.Machine.execLdr rd imm s
  | .str rs imm => Sys2Proof.Machine.execStr rs imm s
  | .ldri rd ra => Sys2Proof.Machine.execLdri rd ra s
  | .stri ra rb => Sys2Proof.Machine.execStri ra rb s
  | .lea rd imm => Sys2Proof.Machine.execLea rd imm s
  | .swap rd ra => Sys2Proof.Machine.execSwap rd ra s
  | .add rd ra rb => Sys2Proof.Machine.execAdd rd ra rb s
  | .sub rd ra rb => Sys2Proof.Machine.execSub rd ra rb s
  | .mul rd ra rb => Sys2Proof.Machine.execMul rd ra rb s
  | .div rd ra rb => Sys2Proof.Machine.execDiv rd ra rb s
  | .mod rd ra rb => Sys2Proof.Machine.execMod rd ra rb s
  | .addi rd ra imm => Sys2Proof.Machine.execAddi rd ra imm s
  | .subi rd ra imm => Sys2Proof.Machine.execSubi rd ra imm s
  | .muli rd ra imm => Sys2Proof.Machine.execMuli rd ra imm s
  | .divi rd ra imm => Sys2Proof.Machine.execDivi rd ra imm s
  | .modi rd ra imm => Sys2Proof.Machine.execModi rd ra imm s
  | .pow rd ra rb => Sys2Proof.Machine.execPow rd ra rb s
  | .sqrt rd ra => Sys2Proof.Machine.execSqrt rd ra s
  | .abs rd ra => Sys2Proof.Machine.execAbs rd ra s
  | .neg rd ra => Sys2Proof.Machine.execNeg rd ra s
  | .inc rd => Sys2Proof.Machine.execInc rd s
  | .dec rd => Sys2Proof.Machine.execDec rd s
  | .and rd ra rb => Sys2Proof.Machine.execAnd rd ra rb s
  | .or rd ra rb => Sys2Proof.Machine.execOr rd ra rb s
  | .xor rd ra rb => Sys2Proof.Machine.execXor rd ra rb s
  | .not rd ra => Sys2Proof.Machine.execNot rd ra s
  | .nand rd ra rb => Sys2Proof.Machine.execNand rd ra rb s
  | .nor rd ra rb => Sys2Proof.Machine.execNor rd ra rb s
  | .shl rd ra o => Sys2Proof.Machine.execShl rd ra o s
  | .shr rd ra o => Sys2Proof.Machine.execShr rd ra o s
  | .rol rd ra o => Sys2Proof.Machine.execRol rd ra o s
  | .ror rd ra o => Sys2Proof.Machine.execRor rd ra o s
  | .setbit rd o => Sys2Proof.Machine.execSetbit rd o s
  | .clrbit rd o => Sys2Proof.Machine.execClrbit rd o s
  | .togbit rd o => Sys2Proof.Machine.execTogbit rd o s
  | .testbit ra o => Sys2Proof.Machine.execTestbit ra o s
  | .popcnt rd ra => Sys2Proof.Machine.execPopcnt rd ra s
  | .clz rd ra => Sys2Proof.Machine.execClz rd ra s
  | .cmp ra rb => Sys2Proof.Machine.execCmp ra rb s
  | .cmpi rs imm => Sys2Proof.Machine.execCmpi rs imm s
  | .test ra rb => Sys2Proof.Machine.execTest ra rb s
  | .testi rs imm => Sys2Proof.Machine.execTesti rs imm s
  | .jmp target => Sys2Proof.Machine.execJmp target s
  | .jeq target => Sys2Proof.Machine.execJeq target s
  | .jz target => Sys2Proof.Machine.execJz target s
  | .jne target => Sys2Proof.Machine.execJne target s
  | .jnz target => Sys2Proof.Machine.execJnz target s
  | .jlt target => Sys2Proof.Machine.execJlt target s
  | .jgt target => Sys2Proof.Machine.execJgt target s
  | .jle target => Sys2Proof.Machine.execJle target s
  | .jge target => Sys2Proof.Machine.execJge target s
  | .jc target => Sys2Proof.Machine.execJc target s
  | .jnc target => Sys2Proof.Machine.execJnc target s
  | .jo target => Sys2Proof.Machine.execJo target s
  | .jno target => Sys2Proof.Machine.execJno target s
  | .push rs => Sys2Proof.Machine.execPush rs s
  | .pop rd => Sys2Proof.Machine.execPop rd s
  | .call target => Sys2Proof.Machine.execCall target s
  | .ret => Sys2Proof.Machine.execRet s
  | .pusha => Sys2Proof.Machine.execPusha s
  | .popa => Sys2Proof.Machine.execPopa s
  | .pushf => Sys2Proof.Machine.execPushf s
  | .popf => Sys2Proof.Machine.execPopf s
  | .int n => Sys2Proof.Machine.execInt n s
  | .cli => Sys2Proof.Machine.execCli s
  | .sti => Sys2Proof.Machine.execSti s
  | .iret => Sys2Proof.Machine.execIret s

end Sys2Proof.Machine
end

