-- ==== Sys2Proof/Machine/Engine.lean ====
section
/-! DEFINITION. The step frame (40_execution_cycle.md R401), the engine's turn in each engine state (R411), auto-advance
(R415) and the host's commands (R413-R419). -/

namespace Sys2Proof.Machine

/-- Fetch (R402): the word at pc, none where `u(pc) >= L` (R408). -/
def fetch (s : State) : Option InstrWord := s.imem[s.pc.toNat]?

/-- Decode and perform (R401): an invalid word raises its diagnostic and goes on (R403). A meaning also writes pc
(`pc <- next_pc`, R406); HALT's keeps it. -/
def perform (w : InstrWord) (s : State) : Result :=
  match decode w with
  | .ok i => exec i s
  | .error _ => .next (s.raise (.unknownInstruction s.pc w)).advance

/-- Natural completion (R407): not after HALT, which ended the run already. -/
def complete (s : State) : State :=
  if s.run = .halted then s else if s.imem.length ≤ s.pc.toNat then s.setRun .halted else s

/-- The bus record of an executed instruction, where the implementation traces them (R152; log entry 11). -/
def recordBus (s : State) : State :=
  if s.par.traceBus then (s.emitTrace (.bus (Config.busRecord s.draws))).drawn else s

/-- `step()` of R401. -/
def engineStep (s : State) : Result :=
  match fetch s with
  | none => .next (s.setRun .halted)
  | some w => andThen (perform w s) fun t => .next (recordBus (complete t))

/-- The condition of the loop of `auto_advance()` (R415): RUN is STEPPING and the word at pc is a blank NOP. -/
def advances (s : State) : Bool := s.run == .stepping && fetch s == some blankNopWord

/-- The loop of `auto_advance()` goes on exactly while its condition holds (R415; log entry 4). -/
def stillAdvancing (s : State) : State := s.setAdvancing (advances s)

/-- The engine's turn (R411): a step in RUNNING; in STEPPING only what is left of a Step or Step-start command, a step of a
blank NOP (R415); nothing in IDLE, HALTED and STOPPED (log entry 3). -/
def engineTurn (s : State) : Result :=
  match s.run with
  | .running => engineStep s
  | .stepping =>
    if s.advancing && advances s then andThen (engineStep s) fun t => .next (stillAdvancing t)
    else .next (s.setAdvancing false)
  | .idle => .next s
  | .halted => .next s
  | .stopped => .next s

/-- Run and Step-start are accepted in IDLE, HALTED and STOPPED (R411). -/
def acceptsStart (s : State) : Bool := s.run == .idle || s.run == .halted || s.run == .stopped

/-- Loading a program and resetting (R413). -/
def loaded (p : List InstrWord) (s : State) : State := externalReset (s.setImem p)

/-- Run and Step-start (R413, R414): RUN becomes `mode`, or HALTED for an empty program; a program longer than R121 allows
faults (log entry 13). -/
def start (mode : RunState) (p : List InstrWord) (s : State) : Result :=
  if acceptsStart s then
    if p.length < 2 ^ 32 then
      .next (stillAdvancing ((loaded p s).setRun (if p.isEmpty then .halted else mode)))
    else .fault .programTooLong
  else .next s

/-- Step (R415): one step at once, then auto-advance, where it has anything to do, goes on in later turns. -/
def stepCommand (s : State) : Result :=
  if s.run = .stepping then andThen (engineStep s) fun t => .next (stillAdvancing t) else .next s

/-- Stop (R416). -/
def stopCommand (s : State) : State :=
  if s.run = .running ∨ s.run = .stepping then stillAdvancing ((s.emit .stopMarker).setRun .stopped) else s

/-- Reset (R418): IMEM and L are kept. -/
def resetCommand (s : State) : State := stillAdvancing ((externalReset s).setRun .idle)

/-- A host action (R412). -/
def hostAct (a : HostAction) (s : State) : Result :=
  match a with
  | .run p => start .running p s
  | .stepStart p => start .stepping p s
  | .step => stepCommand s
  | .stop => .next (stopCommand s)
  | .reset => .next (resetCommand s)
  | .key scan ascii => keyEvent scan ascii s
  | .speed _ => .next s

/-- The turns still to be taken, written. -/
def State.setSched (s : State) (q : List Turn) : State := { s with sched := q }

/-- One turn (R421): the schedule's next one, or the engine's when none is left (log entry 2). -/
def turn (s : State) : Result :=
  match s.sched with
  | [] => engineTurn s
  | .engine :: rest => engineTurn (s.setSched rest)
  | .host a :: rest => hostAct a (s.setSched rest)

/-- A word put at index `n` of the instruction memory, which is filled up to there with NOPs. -/
def placeWord (n : Nat) (w : InstrWord) (imem : List InstrWord) : List InstrWord :=
  if n < imem.length then imem.set n w else imem ++ List.replicate (n - imem.length) malformedWord ++ [w]

/-- The schedule with the engine's turn first. -/
def engineFirst (q : List Turn) : List Turn :=
  match q with
  | [] => []
  | t :: rest => .engine :: t :: rest

end Sys2Proof.Machine
end

