-- ==== Sys2Proof/Machine/Step.lean ====
section
/-! DEFINITION. One step of the machine, and the word the next step runs. -/

namespace Sys2Proof.Machine

/-- One atomic transition of the machine: an engine step or a host action (20_memory.md R213, R214). -/
def step (s : State) : Host.Outcome State Fault Refusal := turn s

/-- `s` with the instruction word whose low `nbits` bits are those of `w`, the rest 0, at pc in the instruction memory, the
engine running and next to take a turn: it stands for the host's load of a program (log entry 5). -/
def State.withFetchWord (s : State) (nbits w : Nat) : State :=
  { s with
    imem := placeWord s.pc.toNat (BitVec.ofNat 64 (w % 2 ^ nbits)) s.imem,
    run := .running, advancing := false, sched := engineFirst s.sched }

end Sys2Proof.Machine
end

