-- ==== Sys2Proof/Machine/Assembler.lean ====
section
/-! DEFINITION. The assembler of 30_encoding.md R330-R339: which words the lines of a source text become. It is surrounding
software (00_scope.md R5) that feeds the host's Run and Step-start; step does not use it. -/

namespace Sys2Proof.Machine

/-- An argument: a register or an immediate (R333, R334). -/
inductive Arg where
  | reg (r : Reg)
  | imm (v : Word)
  deriving DecidableEq, Repr

/-- White space and commas separate tokens (R332). DESIGN CHOICE: white space is the space, the tab, the carriage return and the
line feed, which R332 leaves open (log entry 15). -/
def isSeparator (c : Char) : Bool := c.isWhitespace || c == ','

/-- The tokens of a text, `cur` being the characters of the one begun, last first (R332). DESIGN CHOICE: no token is empty, so
several separators in a row count as one, which R332 leaves open (log entry 15). -/
def tokensFrom (cs cur : List Char) : List (List Char) :=
  match cs with
  | [] => if cur.isEmpty then [] else [cur.reverse]
  | c :: rest =>
    if isSeparator c then (if cur.isEmpty then tokensFrom rest [] else cur.reverse :: tokensFrom rest [])
    else tokensFrom rest (c :: cur)

/-- The tokens of a text (R332). -/
def tokens (cs : List Char) : List (List Char) := tokensFrom cs []

/-- Upper-cased (R332, R333). -/
def upper (cs : List Char) : List Char := cs.map Char.toUpper

/-- A line without its comment (R330). -/
def stripComment (line : List Char) : List Char := line.takeWhile fun c => c != ';'

/-- The value of a digit in base 16. -/
def digitValue (c : Char) : Option Nat :=
  if '0' ≤ c ∧ c ≤ '9' then some (c.toNat - '0'.toNat)
  else if 'A' ≤ c.toUpper ∧ c.toUpper ≤ 'F' then some (c.toUpper.toNat - 'A'.toNat + 10)
  else none

/-- The number of digits in a base, `acc` being the ones read. -/
def numberFrom (base acc : Nat) (cs : List Char) : Option Nat :=
  match cs with
  | [] => some acc
  | c :: rest =>
    match digitValue c with
    | some d => if d < base then numberFrom base (acc * base + d) rest else none
    | none => none

/-- One digit or more in a base. -/
def number (base : Nat) (cs : List Char) : Option Nat :=
  if cs.isEmpty then none else numberFrom base 0 cs

/-- An integer literal (R334), as the word `w(n)`: `0x` and hexadecimal digits, or an optional `-` and decimal digits. -/
def literal (cs : List Char) : Option Word :=
  match cs with
  | '0' :: 'x' :: rest => (number 16 rest).map fun n => BitVec.ofNat 32 n
  | '-' :: rest => (number 10 rest).map fun n => BitVec.ofInt 32 (-(n : Int))
  | _ => (number 10 cs).map fun n => BitVec.ofNat 32 n

/-- The register names (R333). -/
def registerNames : List (List Char × Reg) :=
  [ ("R0".toList, .r0), ("R1".toList, .r1), ("R2".toList, .r2), ("R3".toList, .r3), ("R4".toList, .r4),
    ("R5".toList, .r5), ("R6".toList, .r6), ("R7".toList, .r7), ("SP".toList, .sp), ("LR".toList, .lr) ]

/-- An argument (R333-R335): a known label first, then a register, then an immediate. -/
def argument (labels : List (List Char × Nat)) (tok : List Char) : Option Arg :=
  match labels.lookup tok with
  | some i => some (.imm (BitVec.ofNat 32 i))
  | none =>
    match registerNames.lookup (upper tok) with
    | some r => some (.reg r)
    | none =>
      match tok with
      | '#' :: rest => (literal rest).map .imm
      | _ => none

/-! The argument shapes of the formats (R309, R336). -/

/-- Format N. -/
def shapeN (k : Instr) (as : List Arg) : Option Instr := if as.isEmpty then some k else none

/-- Formats DI and SI. -/
def shapeDI (k : Reg → Word → Instr) (as : List Arg) : Option Instr :=
  match as with
  | [.reg r, .imm v] => some (k r v)
  | _ => none

/-- Format SI. -/
def shapeSI (k : Reg → Word → Instr) (as : List Arg) : Option Instr := shapeDI k as

/-- Format DS. -/
def shapeDS (k : Reg → Reg → Instr) (as : List Arg) : Option Instr :=
  match as with
  | [.reg a, .reg b] => some (k a b)
  | _ => none

/-- Format SS. -/
def shapeSS (k : Reg → Reg → Instr) (as : List Arg) : Option Instr := shapeDS k as

/-- Format DSS. -/
def shapeDSS (k : Reg → Reg → Reg → Instr) (as : List Arg) : Option Instr :=
  match as with
  | [.reg d, .reg a, .reg b] => some (k d a b)
  | _ => none

/-- Format DSI. -/
def shapeDSI (k : Reg → Reg → Word → Instr) (as : List Arg) : Option Instr :=
  match as with
  | [.reg d, .reg a, .imm v] => some (k d a v)
  | _ => none

/-- Format DSO. -/
def shapeDSO (k : Reg → Reg → Op2 → Instr) (as : List Arg) : Option Instr :=
  match as with
  | [.reg d, .reg a, .reg b] => some (k d a (.reg b))
  | [.reg d, .reg a, .imm v] => some (k d a (.imm v))
  | _ => none

/-- Format DO. -/
def shapeDO (k : Reg → Op2 → Instr) (as : List Arg) : Option Instr :=
  match as with
  | [.reg d, .reg b] => some (k d (.reg b))
  | [.reg d, .imm v] => some (k d (.imm v))
  | _ => none

/-- Format SO. -/
def shapeSO (k : Reg → Op2 → Instr) (as : List Arg) : Option Instr := shapeDO k as

/-- Format D. -/
def shapeD (k : Reg → Instr) (as : List Arg) : Option Instr :=
  match as with
  | [.reg r] => some (k r)
  | _ => none

/-- Format S. -/
def shapeS (k : Reg → Instr) (as : List Arg) : Option Instr := shapeD k as

/-- Format I. -/
def shapeI (k : Word → Instr) (as : List Arg) : Option Instr :=
  match as with
  | [.imm v] => some (k v)
  | _ => none

/-- The mnemonics and their argument shapes (R310, R336). A written NOP has B = 0 (R311). -/
def mnemonicTable : List (List Char × (List Arg → Option Instr)) :=
  [
    ("NOP".toList, shapeN (.nop false)), ("HALT".toList, shapeN .halt), ("RESET".toList, shapeN .reset),
    ("DEBUG".toList, shapeN .debug), ("LOAD".toList, shapeDI .load), ("MOV".toList, shapeDS .mov),
    ("LDR".toList, shapeDI .ldr), ("STR".toList, shapeSI .str), ("LDRI".toList, shapeDS .ldri),
    ("STRI".toList, shapeSS .stri), ("LEA".toList, shapeDI .lea), ("SWAP".toList, shapeDS .swap),
    ("ADD".toList, shapeDSS .add), ("SUB".toList, shapeDSS .sub), ("MUL".toList, shapeDSS .mul),
    ("DIV".toList, shapeDSS .div), ("MOD".toList, shapeDSS .mod), ("ADDI".toList, shapeDSI .addi),
    ("SUBI".toList, shapeDSI .subi), ("MULI".toList, shapeDSI .muli), ("DIVI".toList, shapeDSI .divi),
    ("MODI".toList, shapeDSI .modi), ("POW".toList, shapeDSS .pow), ("SQRT".toList, shapeDS .sqrt),
    ("ABS".toList, shapeDS .abs), ("NEG".toList, shapeDS .neg), ("INC".toList, shapeD .inc),
    ("DEC".toList, shapeD .dec), ("AND".toList, shapeDSS .and), ("OR".toList, shapeDSS .or),
    ("XOR".toList, shapeDSS .xor), ("NOT".toList, shapeDS .not), ("NAND".toList, shapeDSS .nand),
    ("NOR".toList, shapeDSS .nor), ("SHL".toList, shapeDSO .shl), ("SHR".toList, shapeDSO .shr),
    ("ROL".toList, shapeDSO .rol), ("ROR".toList, shapeDSO .ror), ("SETBIT".toList, shapeDO .setbit),
    ("CLRBIT".toList, shapeDO .clrbit), ("TOGBIT".toList, shapeDO .togbit), ("TESTBIT".toList, shapeSO .testbit),
    ("POPCNT".toList, shapeDS .popcnt), ("CLZ".toList, shapeDS .clz), ("CMP".toList, shapeSS .cmp),
    ("CMPI".toList, shapeSI .cmpi), ("TEST".toList, shapeSS .test), ("TESTI".toList, shapeSI .testi),
    ("JMP".toList, shapeI .jmp), ("JEQ".toList, shapeI .jeq), ("JZ".toList, shapeI .jz),
    ("JNE".toList, shapeI .jne), ("JNZ".toList, shapeI .jnz), ("JLT".toList, shapeI .jlt),
    ("JGT".toList, shapeI .jgt), ("JLE".toList, shapeI .jle), ("JGE".toList, shapeI .jge),
    ("JC".toList, shapeI .jc), ("JNC".toList, shapeI .jnc), ("JO".toList, shapeI .jo),
    ("JNO".toList, shapeI .jno), ("PUSH".toList, shapeS .push), ("POP".toList, shapeD .pop),
    ("CALL".toList, shapeI .call), ("RET".toList, shapeN .ret), ("PUSHA".toList, shapeN .pusha),
    ("POPA".toList, shapeN .popa), ("PUSHF".toList, shapeN .pushf), ("POPF".toList, shapeN .popf),
    ("INT".toList, shapeI .int), ("CLI".toList, shapeN .cli), ("STI".toList, shapeN .sti),
    ("IRET".toList, shapeN .iret)
  ]

/-- A text is a mnemonic (R332). -/
def isMnemonic (tok : List Char) : Bool := (mnemonicTable.lookup (upper tok)).isSome

/-- The text before the first `:` and the text after it, where no mnemonic stands before it (R331; log entry 15). -/
def splitLabel (line : List Char) : Option (List Char × List Char) :=
  let before := line.takeWhile fun c => c != ':'
  match line.dropWhile (fun c => c != ':') with
  | [] => none
  | _ :: after => if (tokens before).any isMnemonic then none else some (before, after)

/-- A text without the white space around it (R331); white space as for `isSeparator` (log entry 15). -/
def trim (cs : List Char) : List Char :=
  ((cs.dropWhile Char.isWhitespace).reverse.dropWhile Char.isWhitespace).reverse

/-- The labels of the lines from index `i` on (R331); the first definition of a name counts (log entry 15). -/
def labelsFrom (i : Nat) (lines : List (List Char)) : List (List Char × Nat) :=
  match lines with
  | [] => []
  | line :: rest =>
    match splitLabel (stripComment line) with
    | some (name, _) => (trim name, i) :: labelsFrom (i + 1) rest
    | none => labelsFrom (i + 1) rest

/-- What is left of a line without its comment and its label (R330, R331). -/
def content (line : List Char) : List Char :=
  match splitLabel (stripComment line) with
  | some (_, after) => after
  | none => stripComment line

/-- The arguments of a line, none where one of them is malformed. -/
def arguments (labels : List (List Char × Nat)) (toks : List (List Char)) : Option (List Arg) :=
  match toks with
  | [] => some []
  | t :: rest =>
    match argument labels t, arguments labels rest with
    | some a, some as => some (a :: as)
    | _, _ => none

/-- The word of line `i` (R311, R336-R338). -/
def assembleLine (labels : List (List Char × Nat)) (i : Nat) (line : List Char) : InstrWord :=
  match tokens (content line) with
  | [] => blankNopWord
  | m :: toks =>
    match mnemonicTable.lookup (upper m) with
    | none => unknownMnemonicWord i
    | some shape =>
      match (arguments labels toks).bind shape with
      | none => malformedWord
      | some instr => encode instr

/-- The words of the lines from index `i` on: one a line (R330). -/
def assembleFrom (labels : List (List Char × Nat)) (i : Nat) (lines : List (List Char)) : List InstrWord :=
  match lines with
  | [] => []
  | line :: rest => assembleLine labels i line :: assembleFrom labels (i + 1) rest

/-- The program of a source text, given as its lines (R330). -/
def assemble (lines : List (List Char)) : List InstrWord := assembleFrom (labelsFrom 0 lines) 0 lines

end Sys2Proof.Machine
end

