-- ==== Sys2Proof/Safety.lean ====
section
/-! DEFINITION. What counts as a good state and a good run of the engine, in the terms the statements use: the invariant of a
state, the room a push needs, when a run has ended (40_execution_cycle.md R420), and runs of several turns. -/

namespace Sys2Proof.Machine

/-- There is room for `k` more entries on the stack (R123, R124): always, where its capacity is unbounded. -/
def State.hasRoom (s : State) (k : Nat) : Prop := ∀ n, s.par.stackCapacity = some n → s.stk.length + k ≤ n

/-- What every state that a run reaches keeps. -/
structure State.Inv (s : State) : Prop where
  /-- DMEM is in its one canonical form (log entry 9) … -/
  dmemCanonical : s.dmem.wf = true
  /-- … and lists no address beyond 255 (R201). -/
  dmemInRange : s.dmem.below 256 = true
  /-- The framebuffer is in its one canonical form (log entry 10) … -/
  fbCanonical : s.fb.wf = true
  /-- … and lists no cell beyond the 128 by 64 pixels (R140). -/
  fbInRange : s.fb.below 8192 = true
  /-- The keyboard queue holds at most 16 entries (R131). -/
  queueBounded : s.kbd.queue.length ≤ 16
  /-- The handler's address is set only together with `handlerValid` (R130). -/
  handlerSet : s.kbd.handlerValid = false → s.kbd.handler = 0
  /-- The program has at most 2^32-1 words (R121). -/
  programBounded : s.imem.length < 2 ^ 32
  /-- The stack never holds more than its capacity (R123). -/
  stackBounded : s.hasRoom 0
  /-- While a program executes there is one: a Run of an empty program goes straight to HALTED (R413). -/
  programLoaded : s.run = .running ∨ s.run = .stepping → s.imem ≠ []
  /-- Auto-advance goes on in step mode only (R415) … -/
  advancingSteps : s.advancing = true → s.run = .stepping
  /-- … and only at a blank line (R415; log entry 4). -/
  advancingBlank : s.advancing = true → s.imem[s.pc.toNat]? = some blankNopWord

/-- The run has ended (R420). -/
def State.ended (s : State) : Prop := s.run = .halted ∨ s.run = .stopped

/-- No program executes: no step is enabled, and Run and Step-start are accepted (R411). -/
def State.atRest (s : State) : Prop := s.run = .idle ∨ s.run = .halted ∨ s.run = .stopped

/-- A turn that loads no program longer than the 2^32-1 words that R121 allows. -/
def Turn.wellSized : Turn → Prop
  | .host (.run p) => p.length < 2 ^ 32
  | .host (.stepStart p) => p.length < 2 ^ 32
  | .host .step | .host .stop | .host .reset | .host (.key _ _) | .host (.speed _) | .engine => True

/-- `k` turns of the machine. -/
def turns (k : Nat) (s : State) : Result := Host.Core.run Sys2Proof.core k s

end Sys2Proof.Machine
end

