-- ==== Sys2Proof/WellFormed.lean ====
section
/-! DEFINITION. Well-formedness, as R302, R304 and R306-R309 of 30_encoding.md state it on the fields of an instruction word:
one check for each requirement. A term of `Instr` needs no check: its operands are already resolved. That the decoder of
Decode.lean accepts exactly the words whose fields pass these checks is a statement of Certificates/Slice0/Obligations.lean. -/

namespace Sys2Proof

/-- The opcode map of R310: the format of each assigned opcode; every other opcode is reserved (R313). -/
def formatOf (opc : BitVec 8) : Option Format :=
  match opc.toNat with
  | 0x00 => some .NB  -- NOP
  | 0x01 => some .N  -- HALT
  | 0x02 => some .N  -- RESET
  | 0x03 => some .N  -- DEBUG
  | 0x10 => some .DI  -- LOAD
  | 0x11 => some .DS  -- MOV
  | 0x12 => some .DI  -- LDR
  | 0x13 => some .SI  -- STR
  | 0x14 => some .DS  -- LDRI
  | 0x15 => some .SS  -- STRI
  | 0x16 => some .DI  -- LEA
  | 0x17 => some .DS  -- SWAP
  | 0x20 => some .DSS  -- ADD
  | 0x21 => some .DSS  -- SUB
  | 0x22 => some .DSS  -- MUL
  | 0x23 => some .DSS  -- DIV
  | 0x24 => some .DSS  -- MOD
  | 0x25 => some .DSI  -- ADDI
  | 0x26 => some .DSI  -- SUBI
  | 0x27 => some .DSI  -- MULI
  | 0x28 => some .DSI  -- DIVI
  | 0x29 => some .DSI  -- MODI
  | 0x2A => some .DSS  -- POW
  | 0x2B => some .DS  -- SQRT
  | 0x2C => some .DS  -- ABS
  | 0x2D => some .DS  -- NEG
  | 0x2E => some .D  -- INC
  | 0x2F => some .D  -- DEC
  | 0x30 => some .DSS  -- AND
  | 0x31 => some .DSS  -- OR
  | 0x32 => some .DSS  -- XOR
  | 0x33 => some .DS  -- NOT
  | 0x34 => some .DSS  -- NAND
  | 0x35 => some .DSS  -- NOR
  | 0x36 => some .DSO  -- SHL
  | 0x37 => some .DSO  -- SHR
  | 0x38 => some .DSO  -- ROL
  | 0x39 => some .DSO  -- ROR
  | 0x40 => some .DO  -- SETBIT
  | 0x41 => some .DO  -- CLRBIT
  | 0x42 => some .DO  -- TOGBIT
  | 0x43 => some .SO  -- TESTBIT
  | 0x44 => some .DS  -- POPCNT
  | 0x45 => some .DS  -- CLZ
  | 0x50 => some .SS  -- CMP
  | 0x51 => some .SI  -- CMPI
  | 0x52 => some .SS  -- TEST
  | 0x53 => some .SI  -- TESTI
  | 0x60 => some .I  -- JMP
  | 0x61 => some .I  -- JEQ
  | 0x62 => some .I  -- JZ
  | 0x63 => some .I  -- JNE
  | 0x64 => some .I  -- JNZ
  | 0x65 => some .I  -- JLT
  | 0x66 => some .I  -- JGT
  | 0x67 => some .I  -- JLE
  | 0x68 => some .I  -- JGE
  | 0x69 => some .I  -- JC
  | 0x6A => some .I  -- JNC
  | 0x6B => some .I  -- JO
  | 0x6C => some .I  -- JNO
  | 0x70 => some .S  -- PUSH
  | 0x71 => some .D  -- POP
  | 0x72 => some .I  -- CALL
  | 0x73 => some .N  -- RET
  | 0x74 => some .N  -- PUSHA
  | 0x75 => some .N  -- POPA
  | 0x76 => some .N  -- PUSHF
  | 0x77 => some .N  -- POPF
  | 0x80 => some .I  -- INT
  | 0x81 => some .N  -- CLI
  | 0x82 => some .N  -- STI
  | 0x83 => some .N  -- IRET
  | _ => none

/-- Does the format use the field RD (R309). -/
def Format.usesRd : Format → Bool
  | .DI | .DS | .DSS | .DSI | .DSO | .DO | .D => true
  | .N | .NB | .SI | .SS | .SO | .S | .I => false

/-- Does the format use the field RA (R309). -/
def Format.usesRa : Format → Bool
  | .SI | .DS | .SS | .DSS | .DSI | .DSO | .SO | .S => true
  | .N | .NB | .DI | .DO | .D | .I => false

/-- Does the format use the field RB as a register, outside operand 2 (R309). -/
def Format.usesRb : Format → Bool
  | .SS | .DSS => true
  | .N | .NB | .DI | .SI | .DS | .DSI | .DSO | .DO | .SO | .D | .S | .I => false

/-- Does the format have an operand 2 (R306, R309). -/
def Format.hasOp2 : Format → Bool
  | .DSO | .DO | .SO => true
  | .N | .NB | .DI | .SI | .DS | .SS | .DSS | .DSI | .D | .S | .I => false

/-- Does the format use IMM, outside operand 2 (R309). -/
def Format.usesImm : Format → Bool
  | .DI | .SI | .DSI | .I => true
  | .N | .NB | .DS | .SS | .DSS | .DSO | .DO | .SO | .D | .S => false

/-- R302: RSV must be 0. -/
def Fields.rsvZero (f : Fields) : Bool := f.rsv == 0

/-- R307: B may be 1 only in a NOP word. -/
def Fields.blankOnlyInNop (f : Fields) : Bool := !f.b || f.opc == 0

/-- R304, R308: a used register field holds 0..9, an unused one 0. -/
def regFieldOk (used : Bool) (code : BitVec 4) : Bool :=
  if used then decide (code.toNat < 10) else code == 0

/-- R306: M chooses operand 2; the register form needs IMM = 0, the immediate form RB = 0. -/
def Fields.op2Ok (f : Fields) : Bool :=
  if f.m then f.rb == 0 else decide (f.rb.toNat < 10) && f.imm == 0

/-- R306, R308: in a format without operand 2, M is 0, RB is 0 or a register as the format says, and an unused IMM is 0. -/
def Fields.tailOk (fmt : Format) (f : Fields) : Bool :=
  !f.m && regFieldOk fmt.usesRb f.rb && (fmt.usesImm || f.imm == 0)

/-- The fields are those of a valid word (R308, R312). -/
def Fields.wf (f : Fields) : Bool :=
  match formatOf f.opc with
  | none => false
  | some fmt =>
    f.rsvZero && f.blankOnlyInNop && regFieldOk fmt.usesRd f.rd && regFieldOk fmt.usesRa f.ra &&
      (if fmt.hasOp2 then f.op2Ok else f.tailOk fmt)

end Sys2Proof
end

