-- ==== Sys2Proof/Certificates/Slice0/Obligations.lean ====
section
/-! DEFINITION. The statements for the provers. Each docstring names the rules of spec/ that the statement formalises, or says
that it states a choice of the model and names the log entry. A state is written out as a record update, so that what an
instruction leaves unchanged is part of what it does: registers through `State.reg`, data memory through `Memory.read`, pixels
through `pixel`. -/

namespace Sys2Proof.Claims

open Sys2Proof Sys2Proof.Machine

/-! ## Words -/

/-- The code of a register (30_encoding.md R304). -/
def regCode : Reg → BitVec 4
  | .r0 => 0
  | .r1 => 1
  | .r2 => 2
  | .r3 => 3
  | .r4 => 4
  | .r5 => 5
  | .r6 => 6
  | .r7 => 7
  | .sp => 8
  | .lr => 9

/-- A word written out field by field, RSV = 0 (R301): OPC, RD, RA, RB, M, B, IMM. -/
def wordOf (opc : BitVec 8) (rd ra rb : BitVec 4) (m b : BitVec 1) (imm : Word) : InstrWord :=
  opc ++ rd ++ ra ++ rb ++ m ++ b ++ 0#10 ++ imm

/-- The word of an instruction with an operand 2 (R306): a register in RB with M = 0, or an immediate in IMM with M = 1. -/
def wordWithOp2 (opc : BitVec 8) (rd ra : BitVec 4) : Op2 → InstrWord
  | .reg r => wordOf opc rd ra (regCode r) 0 0 0
  | .imm v => wordOf opc rd ra 0 1 0 v

/-- The opcodes that R313 lists as reserved. -/
def reservedOpcode (n : Nat) : Prop :=
  (0x04 ≤ n ∧ n ≤ 0x0F) ∨ (0x18 ≤ n ∧ n ≤ 0x1F) ∨ (0x3A ≤ n ∧ n ≤ 0x3F) ∨ (0x46 ≤ n ∧ n ≤ 0x4F) ∨
    (0x54 ≤ n ∧ n ≤ 0x5F) ∨ (0x6D ≤ n ∧ n ≤ 0x6F) ∨ (0x78 ≤ n ∧ n ≤ 0x7F) ∨ (0x84 ≤ n ∧ n ≤ 0xFF)

/-- A field that a format uses as a register holds 0..9, one it does not use holds 0 (R304, R308). -/
def fieldFits (used : Bool) (code : BitVec 4) : Prop := if used then code.toNat < 10 else code = 0

/-- The checks of R312 on a word, in its order. -/
def ValidWord (w : InstrWord) : Prop :=
  match formatOf (w.extractLsb' 56 8) with
  | none => False
  | some fmt =>
    w.extractLsb' 32 10 = 0 ∧ (w.getLsbD 42 = true → w.extractLsb' 56 8 = 0) ∧
    fieldFits fmt.usesRd (w.extractLsb' 52 4) ∧ fieldFits fmt.usesRa (w.extractLsb' 48 4) ∧
    (if fmt.hasOp2 then
      (if w.getLsbD 43 then w.extractLsb' 44 4 = 0
       else (w.extractLsb' 44 4).toNat < 10 ∧ w.extractLsb' 0 32 = 0)
     else
      w.getLsbD 43 = false ∧ fieldFits fmt.usesRb (w.extractLsb' 44 4) ∧
        (fmt.usesImm = false → w.extractLsb' 0 32 = 0))

/-! ## What an instruction writes -/

/-- Z and N of a result, over the flags `f` (00_scope.md R10). -/
def withZN (f : Flags) (r : Word) : Flags := { f with z := decide (r = 0), n := r.getLsbD 31 }

/-- The outcome is a next state in which register `rd` holds `v`, the flags are `f`, the output port holds `out` and pc is one
on; every other register and everything else is as in `s`. -/
def WritesOut (o : Result) (s : State) (rd : Reg) (v : Word) (f : Flags) (out : List OutRecord) : Prop :=
  ∃ t, o = .next t ∧ (∀ q, t.reg q = if q = rd then v else s.reg q) ∧
    t = { s with regs := t.regs, flags := f, out := out, pc := s.pc + 1 }

/-- The same, with nothing put out. -/
def Writes (o : Result) (s : State) (rd : Reg) (v : Word) (f : Flags) : Prop := WritesOut o s rd v f s.out

/-- The output port after an access to data address `a` (20_memory.md R203-R205). -/
def outAfterAccess (s : State) (a : Word) : List OutRecord :=
  if s.par.diagOnMemRange = true ∧ 256 ≤ a.toNat then s.out ++ [.diag (.memRange s.pc a)] else s.out

/-- The cell at data address `a`, 0 where it is out of range (R203). -/
def cellAt (s : State) (a : Word) : Word := if a.toNat < 256 then s.dmem.read a.toNat else 0

/-- The outcome is a next state in which the data cell at `a` holds `v`, where `a` is in range, and every other address reads as
before; pc is one on, a diagnostic is put out as R204 says, and everything else is as in `s`. -/
def Stores (o : Result) (s : State) (a v : Word) : Prop :=
  ∃ t, o = .next t ∧
    (∀ b : Nat, t.dmem.read b = if b = a.toNat ∧ a.toNat < 256 then v else s.dmem.read b) ∧
    t = { s with dmem := t.dmem, out := outAfterAccess s a, pc := s.pc + 1 }

/-- The value of operand 2 (R306). -/
def op2Of (s : State) : Op2 → Word
  | .reg r => s.reg r
  | .imm v => v

/-- A shift amount or bit index: the low 5 bits of operand 2 (43_logic_bit.md R700). -/
def amountOf (s : State) (o : Op2) : Nat := (op2Of s o).toNat % 32

/-- The rounding of a signed quotient (42_arithmetic.md R604). -/
def rounded : Rounding → Int → Int → Int
  | .trunc, n, d => Int.tdiv n d
  | .floor, n, d => Int.fdiv n d

/-- The flags after a division or remainder by zero (R604, R605). -/
def flagsAfterDivZero (s : State) : Flags :=
  match s.par.div0Flags with
  | .set => { s.flags with z := true, n := false, v := true }
  | .leave => s.flags

/-- The output port after a division or remainder by `b` (R604, R605). -/
def outAfterDivision (s : State) (b : Word) : List OutRecord :=
  if b = 0 ∧ s.par.diagOnDiv0 = true then s.out ++ [.diag (.divZero s.pc)] else s.out

/-- The word DIV writes (R604). -/
def divResult (s : State) (a b : Word) : Word :=
  if b = 0 then 0
  else if a = minWord ∧ b = minusOne then minWord
  else BitVec.ofInt 32 (rounded s.par.divRounding a.toInt b.toInt)

/-- The flags DIV leaves (R604). -/
def divFlags (s : State) (a b : Word) : Flags :=
  if b = 0 then flagsAfterDivZero s
  else withZN { s.flags with v := decide (a = minWord ∧ b = minusOne) } (divResult s a b)

/-- The word MOD writes (R605). -/
def modResult (s : State) (a b : Word) : Word :=
  if b = 0 then 0
  else BitVec.ofInt 32 (a.toInt - b.toInt * rounded s.par.divRounding a.toInt b.toInt)

/-- The flags MOD leaves (R605). -/
def modFlags (s : State) (a b : Word) : Flags :=
  if b = 0 then flagsAfterDivZero s else withZN { s.flags with v := false } (modResult s a b)

/-- The word POW writes for a negative exponent (R611): the exact power, truncated toward zero. -/
def powerNegative (a : Word) (e : Int) : Word :=
  if a.toInt = 1 then 1 else if a.toInt = -1 then (if e % 2 = 0 then 1 else 0xFFFFFFFF) else 0

/-- `pack(F)` (10_state.md R117), as a number. -/
def packed (f : Flags) : Word := BitVec.ofNat 32 (f.z.toNat + 2 * f.c.toNat + 4 * f.n.toNat + 8 * f.v.toNat)

/-- `unpack(v)` (R117): bits 0 to 3 of the number; I is kept. -/
def unpackedInto (f : Flags) (v : Word) : Flags :=
  { z := decide (v.toNat % 2 = 1), c := decide (v.toNat / 2 % 2 = 1), n := decide (v.toNat / 4 % 2 = 1),
    v := decide (v.toNat / 8 % 2 = 1), i := f.i }

/-- A branch: pc is the target where the condition holds, one on where it does not; nothing else changes (R810). -/
def Branches (o : Result) (s : State) (cond : Bool) (target : Word) : Prop :=
  o = .next { s with pc := if cond then target else s.pc + 1 }

/-- `t` is what a comparison of `a` with `b` leaves from `s`, by CMP or by CMPI. -/
def Compared (s t : State) (a b : Word) : Prop :=
  (∃ ra rb, a = s.reg ra ∧ b = s.reg rb ∧ exec (.cmp ra rb) s = .next t) ∨
    ∃ ra, a = s.reg ra ∧ exec (.cmpi ra b) s = .next t

/-- The stack counter `k` entries further down, every other register as before. -/
def spDown (s t : State) (k : Nat) : Prop :=
  ∀ q, t.reg q = if q = .sp then s.reg .sp - BitVec.ofNat 32 k else s.reg q

/-- The stack counter `k` entries further up, every other register as before. -/
def spUp (s t : State) (k : Nat) : Prop :=
  ∀ q, t.reg q = if q = .sp then s.reg .sp + BitVec.ofNat 32 k else s.reg q

/-- `R0`..`R7` by number (any greater number is `R7` here). -/
def general : Nat → Reg
  | 0 => .r0
  | 1 => .r1
  | 2 => .r2
  | 3 => .r3
  | 4 => .r4
  | 5 => .r5
  | 6 => .r6
  | _ => .r7

/-! ## Turns -/

/-- It is the engine's turn: none is scheduled, or the next one scheduled is its own. `s₀` is `s` with that turn taken off the
schedule. -/
def EnginesTurn (s s₀ : State) : Prop :=
  (s.sched = [] ∧ s₀ = s) ∨ ∃ q, s.sched = .engine :: q ∧ s₀ = { s with sched := q }

/-- The test of 40_execution_cycle.md R407 on the state an instruction leaves: RUN becomes HALTED where pc is at or beyond the
end of the program. -/
def completed (t : State) : State := if t.imem.length ≤ t.pc.toNat then { t with run := .halted } else t

/-- What step does after an instruction: the test of R407, and a bus record where the implementation traces them (10_state.md
R152; log entry 11). -/
def afterInstr (t : State) : State :=
  if t.par.traceBus then
    { completed t with trace := t.trace ++ [.bus (Config.busRecord t.draws)], draws := t.draws + 1 }
  else completed t

/-- What a Step command leaves after its instruction: the mark that its auto-advance is still to be done, where RUN is STEPPING and
the word at pc is a blank NOP (R415; log entry 4). -/
def afterStepped (t : State) : State :=
  { afterInstr t with
    advancing := decide ((afterInstr t).run = .stepping ∧
      (afterInstr t).imem[(afterInstr t).pc.toNat]? = some 0x0000040000000000) }

/-- Every piece of state that external reset writes, at its value of 70_reset_and_hazards.md R1300; RUN, the program and the
model's own `advancing` as given, the schedule `q`; the parameters and the count of draws kept. -/
def resetFrom (s : State) (r : RunState) (p : List InstrWord) (adv : Bool) (q : List Turn) : State where
  regs := { r0 := 0, r1 := 0, r2 := 0, r3 := 0, r4 := 0, r5 := 0, r6 := 0, r7 := 0, sp := 255, lr := 0 }
  pc := 0
  flags := { z := false, c := false, n := false, v := false, i := false }
  run := r
  dmem := []
  imem := p
  stk := []
  kbd := { enabled := false, handler := 0, handlerValid := false, queue := [], lastScan := 0, lastAscii := 0 }
  fb := []
  cur := { cx := 0, cy := 0 }
  color := s.par.resetColor
  out := []
  audio := []
  trace := []
  par := s.par
  draws := s.draws
  advancing := adv
  sched := q

/-- The keyboard after a key event (60_exceptions.md R1203). -/
def keyboardAfter (k : Keyboard) (scan ascii : Word) : Keyboard :=
  { enabled := k.enabled, handler := k.handler, handlerValid := k.handlerValid,
    queue := if k.queue.length < 16 then k.queue ++ [(scan, ascii)] else k.queue,
    lastScan := scan, lastAscii := ascii }

/-- A key event vectors (R1204). -/
def Vectors (s : State) : Prop :=
  s.kbd.enabled = true ∧ s.kbd.handlerValid = true ∧ (s.run = .running ∨ s.run = .stepping) ∧
    (s.par.kbdGatedByIf = false ∨ s.flags.i = true)

/-- The interrupt number `n` runs the service `svc` (47_interrupt.md R1101). -/
def Serves (s : State) (n : Word) (svc : Service) : Prop := s.par.intMap.lookup n = some svc

/-- The print value (R1106). -/
def pval (s : State) : Word := if s.reg .r7 ≠ 0 then s.reg .r7 else s.reg .r1

/-- The point is on the 128 by 64 screen (R1112). -/
def OnScreen (p : Point) : Prop := 0 ≤ p.1 ∧ p.1 < 128 ∧ 0 ≤ p.2 ∧ p.2 < 64

/-- The outcome is a next state in which exactly the on-screen points that `drawn` holds for have colour `c`, every other pixel
is as before, pc is one on, and everything else is as in `s`. -/
def Draws (o : Result) (s : State) (drawn : Point → Prop) (c : Word) : Prop :=
  ∃ t, o = .next t ∧
    (∀ p, OnScreen p → (drawn p → pixel t.fb p = c) ∧ (¬ drawn p → pixel t.fb p = pixel s.fb p)) ∧
    t = { s with fb := t.fb, pc := s.pc + 1 }

/-- The points of a rectangle's area (R1119, R1120). -/
def InRect (x0 y0 wd ht : Int) (p : Point) : Prop :=
  x0 ≤ p.1 ∧ p.1 < x0 + wd ∧ y0 ≤ p.2 ∧ p.2 < y0 + ht

/-- Two points are 8-neighbours, or the same. -/
def Touch (p q : Point) : Prop := (p.1 - q.1).natAbs ≤ 1 ∧ (p.2 - q.2).natAbs ≤ 1

/-- The points of the list form one 8-connected set. -/
def Connected8 (ps : List Point) : Prop :=
  ∀ p ∈ ps, ∀ q ∈ ps, Relation.ReflTransGen (fun a b => b ∈ ps ∧ Touch a b) p q

/-- The exact run of a horizontal, vertical or 45-degree line: the points `i` steps from the first one, `i` from 0 to the
greater of the two distances. -/
def OnRun (x0 y0 x1 y1 : Int) (p : Point) : Prop :=
  ∃ i : Nat, i ≤ max (x1 - x0).natAbs (y1 - y0).natAbs ∧
    p = (x0 + (x1 - x0).sign * (i : Int), y0 + (y1 - y0).sign * (i : Int))

/-! ## Who writes what -/

/-- The instructions that write F.C (10_state.md R112). -/
def writesC : Instr → Bool
  | .add _ _ _ | .addi _ _ _ | .sub _ _ _ | .subi _ _ _ | .cmp _ _ | .cmpi _ _ | .test _ _ | .testi _ _
  | .popf | .iret | .reset => true
  | _ => false

/-- The instructions that write F.V (R114). -/
def writesV : Instr → Bool
  | .mul _ _ _ | .muli _ _ _ | .pow _ _ _ | .neg _ _ | .abs _ _ | .div _ _ _ | .divi _ _ _ | .mod _ _ _
  | .modi _ _ _ | .popf | .iret | .reset => true
  | _ => false

/-- The instructions that write F.I (R115). -/
def writesI : Instr → Bool
  | .cli | .sti | .iret | .reset => true
  | _ => false

/-- The instructions that write neither F.Z nor F.N: control but RESET, data movement, branches, the stack but POPF, and the
interrupt instructions but IRET (R111, R113). -/
def keepsZN : Instr → Bool
  | .nop _ | .halt | .debug | .load _ _ | .mov _ _ | .ldr _ _ | .str _ _ | .ldri _ _ | .stri _ _ | .lea _ _
  | .swap _ _ | .jmp _ | .jeq _ | .jz _ | .jne _ | .jnz _ | .jlt _ | .jgt _ | .jle _ | .jge _ | .jc _
  | .jnc _ | .jo _ | .jno _ | .push _ | .pop _ | .call _ | .ret | .pusha | .popa | .pushf | .int _ | .cli
  | .sti => true
  | _ => false

/-- The registers an instruction may write: its destination, SP where it pushes or pops (R102), R0 for the dispatcher's results
(R1101), R0 to R7 for POPA, all ten for RESET. -/
def mayWrite : Instr → Reg → Prop
  | .load rd _, q | .mov rd _, q | .ldr rd _, q | .ldri rd _, q | .lea rd _, q | .add rd _ _, q | .sub rd _ _, q
  | .mul rd _ _, q | .div rd _ _, q | .mod rd _ _, q | .addi rd _ _, q | .subi rd _ _, q | .muli rd _ _, q
  | .divi rd _ _, q | .modi rd _ _, q | .pow rd _ _, q | .sqrt rd _, q | .abs rd _, q | .neg rd _, q
  | .inc rd, q | .dec rd, q | .and rd _ _, q | .or rd _ _, q | .xor rd _ _, q | .not rd _, q | .nand rd _ _, q
  | .nor rd _ _, q | .shl rd _ _, q | .shr rd _ _, q | .rol rd _ _, q | .ror rd _ _, q | .setbit rd _, q
  | .clrbit rd _, q | .togbit rd _, q | .popcnt rd _, q | .clz rd _, q => q = rd
  | .swap ra rb, q => q = ra ∨ q = rb
  | .pop rd, q => q = rd ∨ q = .sp
  | .push _, q | .call _, q | .ret, q | .pusha, q | .pushf, q | .popf, q | .iret, q => q = .sp
  | .popa, q => q ≠ .lr
  | .int _, q => q = .r0
  | .reset, _ => True
  | _, _ => False

/-- The instructions that may set pc to something else than pc + 1 (40_execution_cycle.md R405). -/
def setsPc : Instr → Bool
  | .halt | .jmp _ | .jeq _ | .jz _ | .jne _ | .jnz _ | .jlt _ | .jgt _ | .jle _ | .jge _ | .jc _ | .jnc _
  | .jo _ | .jno _ | .call _ | .ret | .iret => true
  | _ => false

/-- The instructions that store to data memory (20_memory.md R200), and RESET. -/
def writesDmem : Instr → Bool
  | .str _ _ | .stri _ _ | .reset => true
  | _ => false

/-- The instructions that reach the stack (R200), and RESET. -/
def writesStk : Instr → Bool
  | .push _ | .pop _ | .call _ | .ret | .pusha | .popa | .pushf | .popf | .iret | .reset => true
  | _ => false

/-- INT, the only way to a device (R200). -/
def isInt : Instr → Bool
  | .int _ => true
  | _ => false

/-- The instructions that may put a record on the output port (10_state.md R150). -/
def mayPutOut : Instr → Bool
  | .int _ | .halt | .div _ _ _ | .divi _ _ _ | .mod _ _ _ | .modi _ _ _ | .ldr _ _ | .ldri _ _ | .str _ _
  | .stri _ _ => true
  | _ => false

/-- The instruction writes SP other than by a push or a pop: it names SP as a destination, or is RESET. -/
def namesSp (i : Instr) : Prop :=
  match i with
  | .reset => True
  | .pop rd => rd = .sp
  | .push _ | .call _ | .ret | .pusha | .popa | .pushf | .popf | .iret => False
  | j => mayWrite j .sp

/-- The next turn is a Run or Step-start command. -/
def StartsNext (s : State) : Prop :=
  ∃ p q, s.sched = .host (.run p) :: q ∨ s.sched = .host (.stepStart p) :: q

/-- The next turn is a Reset command. -/
def ResetsNext (s : State) : Prop := ∃ q, s.sched = .host .reset :: q

/-- RUN in step mode where it is RUNNING in run mode. -/
def asStepping : RunState → RunState
  | .running => .stepping
  | r => r

end Sys2Proof.Claims

open Sys2Proof Sys2Proof.Machine Sys2Proof.Claims

/-! # Encoding -/

/-- Decode and encode agree: every instruction, with every operand, is decoded from its encoded word (R301, R304, R305, R306,
R309, R310). -/
def Obligations.EncodeThenDecodeGivesInstruction : Prop := ∀ i : Instr, decode (encode i) = .ok i

/-- No bit of a word is dropped: a word that decodes is the encoding of the instruction it decodes to, so no two words mean the
same instruction (R308, R314). -/
def Obligations.DecodeThenEncodeGivesWord : Prop := ∀ w i, decode w = .ok i → encode i = w

/-- The decoder accepts exactly the words that pass the checks of R312, so RSV is 0 in every valid word (R302) and so is every
field its format does not use (R308). -/
def Obligations.DecoderAcceptsExactlyValidWords : Prop := ∀ w, (∃ i, decode w = .ok i) ↔ ValidWord w

/-- Invalid words and reserved opcodes (R313, R403): a reserved opcode is never decoded; a word that does not decode puts out its
diagnostic and the run goes on at pc + 1, in RUNNING and inside a Step command; the assembler writes an unrecognised mnemonic as
opcode 0xFF with IMM the line index. Nothing else of the spec's state changes but by the test of R407. Beside that the outcome
holds two choices of the model: a traced bus record and its count of draws (log entry 11), and the mark of the Step command's
auto-advance, whose steps take turns of their own (log entry 4). -/
def Obligations.InvalidWordsOnlyRaiseDiagnostic : Prop :=
  (∀ w : InstrWord, reservedOpcode (w.extractLsb' 56 8).toNat → decode w = .error .reservedOpcode) ∧
  (∀ s s₀ w why, EnginesTurn s s₀ → s.run = .running → s.imem[s.pc.toNat]? = some w → decode w = .error why →
    step s = .next (afterInstr
      { s₀ with out := s.out ++ [.diag (.unknownInstruction s.pc w)], pc := s.pc + 1 })) ∧
  (∀ s q w why, s.sched = .host .step :: q → s.run = .stepping → s.imem[s.pc.toNat]? = some w →
    decode w = .error why →
    step s = .next (afterStepped
      { s with out := s.out ++ [.diag (.unknownInstruction s.pc w)], pc := s.pc + 1, sched := q })) ∧
  (∀ labels i line m toks, tokens (content line) = m :: toks → isMnemonic m = false →
    assembleLine labels i line = wordOf 0xFF 0 0 0 0 0 (BitVec.ofNat 32 i))

/-- The example encodings of R340: each assembly text becomes the word given, and the word decodes to the instruction. -/
def Obligations.ExampleEncodingsHold : Prop :=
  (assemble ["ADD R0, R1, R2".toList] = [0x2001200000000000] ∧ decode 0x2001200000000000 = .ok (.add .r0 .r1 .r2)) ∧
  (assemble ["LOAD R1, #5".toList] = [0x1010000000000005] ∧ decode 0x1010000000000005 = .ok (.load .r1 5)) ∧
  (assemble ["LOAD R1, #-1".toList] = [0x10100000FFFFFFFF] ∧
    decode 0x10100000FFFFFFFF = .ok (.load .r1 0xFFFFFFFF)) ∧
  (assemble ["STR R3, #16".toList] = [0x1303000000000010] ∧ decode 0x1303000000000010 = .ok (.str .r3 16)) ∧
  (assemble ["SHL R0, R1, #3".toList] = [0x3601080000000003] ∧
    decode 0x3601080000000003 = .ok (.shl .r0 .r1 (.imm 3))) ∧
  (assemble ["SHL R0, R1, R2".toList] = [0x3601200000000000] ∧
    decode 0x3601200000000000 = .ok (.shl .r0 .r1 (.reg .r2))) ∧
  (assemble ["JMP #7".toList] = [0x6000000000000007] ∧ decode 0x6000000000000007 = .ok (.jmp 7)) ∧
  (assemble ["PUSH SP".toList] = [0x7008000000000000] ∧ decode 0x7008000000000000 = .ok (.push .sp)) ∧
  (assemble ["INT #1".toList] = [0x8000000000000001] ∧ decode 0x8000000000000001 = .ok (.int 1)) ∧
  (assemble [[]] = [0x0000040000000000] ∧ decode 0x0000040000000000 = .ok (.nop true))

/-! # Reset, the host's commands, the step frame -/

/-- The machine right after reset (R1301, R1303): the registers, pc, flags, data memory, stack, keyboard, framebuffer, cursor,
colour and ports at the values the spec gives, RUN = IDLE. -/
def Obligations.ResetLeavesSpecifiedValues : Prop :=
  let s := State.reset
  (∀ r, s.reg r = if r = .sp then 255 else 0) ∧ s.pc = 0 ∧
  s.flags = { z := false, c := false, n := false, v := false, i := false } ∧
  (∀ a, s.dmem.read a = 0) ∧ s.stk = [] ∧ s.run = .idle ∧
  s.kbd = { enabled := false, handler := 0, handlerValid := false, queue := [], lastScan := 0, lastAscii := 0 } ∧
  (∀ p, pixel s.fb p = 0) ∧ s.cur = { cx := 0, cy := 0 } ∧ s.color = s.par.resetColor ∧
  s.out = [] ∧ s.audio = [] ∧ s.trace = []

/-- Run, Step-start and Reset (R413, R414, R418, R1300): a start that is accepted loads the program and resets everything, RUN is
HALTED for an empty program; in RUNNING and STEPPING a start has no effect (R411); Reset keeps the program. An unlisted cell reads
as 0. The model's choices: the auto-advance that R414 calls is not run inside the command but marked, where the first line is
blank, and takes the turns that follow (log entry 4); the parameters, the count of draws and the schedule are no state that reset
writes (log entries 6, 20). -/
def Obligations.StartAndResetCommands : Prop :=
  (∀ s p q, s.sched = .host (.run p) :: q → p.length < 2 ^ 32 →
    step s = .next (if s.run = .running ∨ s.run = .stepping then { s with sched := q }
      else resetFrom s (if p = [] then .halted else .running) p false q)) ∧
  (∀ s p q, s.sched = .host (.stepStart p) :: q → p.length < 2 ^ 32 →
    step s = .next (if s.run = .running ∨ s.run = .stepping then { s with sched := q }
      else resetFrom s (if p = [] then .halted else .stepping) p (decide (p[0]? = some 0x0000040000000000)) q)) ∧
  (∀ s q, s.sched = .host .reset :: q → step s = .next (resetFrom s .idle s.imem false q)) ∧
  (∀ a, Memory.read [] a = 0) ∧ (∀ p, pixel [] p = 0)

/-- Stop, and the speed setting (R416, R417): Stop puts out its marker and stops a run; in any other state it has no effect. The
speed setting changes nothing. The model's choices: Stop also clears the mark of an auto-advance (log entry 4), and each command is
taken off the schedule (log entry 2). -/
def Obligations.StopAndSpeedCommands : Prop :=
  (∀ s q, s.sched = .host .stop :: q →
    step s = .next (if s.run = .running ∨ s.run = .stepping then
        { s with out := s.out ++ [.stopMarker], run := .stopped, advancing := false, sched := q }
      else { s with sched := q })) ∧
  (∀ s n q, s.sched = .host (.speed n) :: q → step s = .next { s with sched := q })

/-- Where no step is enabled nothing executes (R409, R411). In IDLE, HALTED and STOPPED whatever comes next, short of a Run,
Step-start or Reset command, the turn is taken and nothing else changes, but for the keyboard device at a key event: no interrupt
vectors. In STEPPING the engine's turn changes nothing where no auto-advance is left. That such turns answer a next state at all is
the model's choice (log entry 3). -/
def Obligations.NothingExecutesAtRest : Prop :=
  (∀ s, s.atRest → ¬ StartsNext s → ¬ ResetsNext s →
    (∀ scan ascii q, s.sched = .host (.key scan ascii) :: q →
      step s = .next { s with kbd := keyboardAfter s.kbd scan ascii, sched := q }) ∧
    ((∀ scan ascii q, s.sched ≠ .host (.key scan ascii) :: q) → step s = .next { s with sched := s.sched.tail })) ∧
  ∀ s s₀, EnginesTurn s s₀ → s.run = .stepping → s.advancing = false → step s = .next s₀

/-- A step runs the decoded instruction (R401): in RUNNING, on the engine's turn, step is exec of the instruction at pc, followed by
the test of R407 (and a bus record where they are traced). -/
def Obligations.StepRunsDecodedInstruction : Prop :=
  ∀ s s₀ w i, EnginesTurn s s₀ → s.run = .running → s.imem[s.pc.toNat]? = some w → decode w = .ok i →
    step s =
      match exec i s₀ with
      | .next t => .next (afterInstr t)
      | .fault f => .fault f
      | .refused r => .refused r

/-- The Step command (R415): in STEPPING it runs the instruction at pc in the same way, and auto-advance is left to be done where
RUN is still STEPPING and the next line is blank (that it takes turns of its own is log entry 4); in every other state it has no
effect. -/
def Obligations.StepCommandRunsOneInstruction : Prop :=
  (∀ s q, s.sched = .host .step :: q → s.run ≠ .stepping → step s = .next { s with sched := q }) ∧
  (∀ s q w i, s.sched = .host .step :: q → s.run = .stepping → s.imem[s.pc.toNat]? = some w → decode w = .ok i →
    step s =
      match exec i { s with sched := q } with
      | .next t => .next (afterStepped t)
      | .fault f => .fault f
      | .refused r => .refused r)

/-- Auto-advance (R415): where it is still to be done, the engine's turns step over the `k` blank lines at pc with no other effect
than pc; then, at another word, the engine waits for the next command, and at the end of the program RUN becomes HALTED (R407). The
division into turns, one blank line each, and the mark `advancing` that is cleared with the last one, are the model's (log
entry 4); the premise on `traceBus` leaves out the traced bus records (log entry 11). -/
def Obligations.AutoAdvanceSkipsBlankLines : Prop :=
  ∀ k s, s.run = .stepping → s.advancing = true → s.sched = [] → s.par.traceBus = false →
    s.imem.length < 2 ^ 32 → 0 < k → (∀ j < k, s.imem[s.pc.toNat + j]? = some 0x0000040000000000) →
      (∀ w, s.imem[s.pc.toNat + k]? = some w → w ≠ 0x0000040000000000 →
        turns k s = .next { s with pc := s.pc + BitVec.ofNat 32 k, advancing := false }) ∧
      (s.pc.toNat + k = s.imem.length →
        turns k s = .next { s with pc := s.pc + BitVec.ofNat 32 k, advancing := false, run := .halted })

/-- Natural termination (R407, R408): the state that an engine's turn in RUNNING or a Step command in STEPPING leaves is HALTED where
its pc is at or beyond the end of the program; a fetch there changes RUN only (and the model's mark of an auto-advance, log
entry 4), in RUNNING as in a Step command; so it puts out no record (what is put out before it is the instruction's own, by
StepRunsDecodedInstruction and StepCommandRunsOneInstruction). -/
def Obligations.NaturalTermination : Prop :=
  (∀ s s₀ t, EnginesTurn s s₀ → s.run = .running → step s = .next t → t.imem.length ≤ t.pc.toNat →
    t.run = .halted) ∧
  (∀ s s₀, EnginesTurn s s₀ → s.run = .running → s.imem.length ≤ s.pc.toNat →
    step s = .next { s₀ with run := .halted }) ∧
  (∀ s t q, s.sched = .host .step :: q → s.run = .stepping → step s = .next t → t.imem.length ≤ t.pc.toNat →
    t.run = .halted) ∧
  (∀ s q, s.sched = .host .step :: q → s.run = .stepping → s.imem.length ≤ s.pc.toNat →
    step s = .next { s with run := .halted, advancing := false, sched := q })

/-! # Control and data movement -/

/-- NOP, HALT, RESET, DEBUG (R1000-R1004). -/
def Obligations.ControlInstructions : Prop :=
  (∀ b : Bool, decode (wordOf 0x00 0 0 0 0 (BitVec.ofBool b) 0) = .ok (.nop b)) ∧
  decode (wordOf 0x01 0 0 0 0 0 0) = .ok .halt ∧ decode (wordOf 0x02 0 0 0 0 0 0) = .ok .reset ∧
  decode (wordOf 0x03 0 0 0 0 0 0) = .ok .debug ∧
  ∀ s : State,
    (∀ b, exec (.nop b) s = .next { s with pc := s.pc + 1 }) ∧
    exec .halt s = .next { s with out := s.out ++ [.haltMarker], run := .halted } ∧
    exec .debug s = .next { s with trace := s.trace ++ [.debugMark s.pc], pc := s.pc + 1 } ∧
    ∃ t, exec .reset s = .next t ∧ (∀ r, t.reg r = if r = .sp then 255 else 0) ∧ (∀ a, t.dmem.read a = 0) ∧
      t = { s with regs := t.regs, dmem := t.dmem, stk := [], pc := s.pc + 1,
                   flags := { z := false, c := false, n := false, v := false, i := false } }

/-- LOAD, MOV, LEA, SWAP (R501, R502, R507, R508). -/
def Obligations.RegisterMoves : Prop :=
  (∀ rd imm, decode (wordOf 0x10 (regCode rd) 0 0 0 0 imm) = .ok (.load rd imm)) ∧
  (∀ rd rs, decode (wordOf 0x11 (regCode rd) (regCode rs) 0 0 0 0) = .ok (.mov rd rs)) ∧
  (∀ rd addr, decode (wordOf 0x16 (regCode rd) 0 0 0 0 addr) = .ok (.lea rd addr)) ∧
  (∀ ra rb, decode (wordOf 0x17 (regCode ra) (regCode rb) 0 0 0 0) = .ok (.swap ra rb)) ∧
  ∀ s : State,
    (∀ rd imm, Writes (exec (.load rd imm) s) s rd imm s.flags) ∧
    (∀ rd rs, Writes (exec (.mov rd rs) s) s rd (s.reg rs) s.flags) ∧
    (∀ rd addr, Writes (exec (.lea rd addr) s) s rd addr s.flags) ∧
    ∀ ra rb, ∃ t, exec (.swap ra rb) s = .next t ∧
      (∀ q, t.reg q = if q = ra then s.reg rb else if q = rb then s.reg ra else s.reg q) ∧
      t = { s with regs := t.regs, pc := s.pc + 1 }

/-- LDR, LDRI (R503, R505), with MemRead of R203: a cell out of range reads as 0, with the diagnostic only under
DIAG_ON_MEM_RANGE. -/
def Obligations.Loads : Prop :=
  (∀ rd addr, decode (wordOf 0x12 (regCode rd) 0 0 0 0 addr) = .ok (.ldr rd addr)) ∧
  (∀ rd ra, decode (wordOf 0x14 (regCode rd) (regCode ra) 0 0 0 0) = .ok (.ldri rd ra)) ∧
  ∀ s : State,
    (∀ rd addr, WritesOut (exec (.ldr rd addr) s) s rd (cellAt s addr) s.flags (outAfterAccess s addr)) ∧
    ∀ rd ra, WritesOut (exec (.ldri rd ra) s) s rd (cellAt s (s.reg ra)) s.flags (outAfterAccess s (s.reg ra))

/-- STR, STRI (R504, R506), with MemWrite of R204: the cell named, and no other one, takes the value; a store out of range is
dropped. The premise is the canonical form of data memory, which every step keeps (StepKeepsInvariant). -/
def Obligations.StoresWriteOneCell : Prop :=
  (∀ rs addr, decode (wordOf 0x13 0 (regCode rs) 0 0 0 addr) = .ok (.str rs addr)) ∧
  (∀ rs ra, decode (wordOf 0x15 0 (regCode rs) (regCode ra) 0 0 0) = .ok (.stri rs ra)) ∧
  ∀ s : State, s.dmem.wf = true →
    (∀ rs addr, Stores (exec (.str rs addr) s) s addr (s.reg rs)) ∧
    ∀ rs ra, Stores (exec (.stri rs ra) s) s (s.reg ra) (s.reg rs)

/-! # Arithmetic -/

/-- ADD, ADDI, SUB, SUBI, MUL, MULI (R601-R603, R606-R608). -/
def Obligations.AddSubtractMultiply : Prop :=
  (∀ rd ra rb, decode (wordOf 0x20 (regCode rd) (regCode ra) (regCode rb) 0 0 0) = .ok (.add rd ra rb)) ∧
  (∀ rd ra rb, decode (wordOf 0x21 (regCode rd) (regCode ra) (regCode rb) 0 0 0) = .ok (.sub rd ra rb)) ∧
  (∀ rd ra rb, decode (wordOf 0x22 (regCode rd) (regCode ra) (regCode rb) 0 0 0) = .ok (.mul rd ra rb)) ∧
  (∀ rd ra imm, decode (wordOf 0x25 (regCode rd) (regCode ra) 0 0 0 imm) = .ok (.addi rd ra imm)) ∧
  (∀ rd ra imm, decode (wordOf 0x26 (regCode rd) (regCode ra) 0 0 0 imm) = .ok (.subi rd ra imm)) ∧
  (∀ rd ra imm, decode (wordOf 0x27 (regCode rd) (regCode ra) 0 0 0 imm) = .ok (.muli rd ra imm)) ∧
  ∀ s : State,
    let added := fun (o : Result) rd (a b : Word) =>
      Writes o s rd (a + b) (withZN { s.flags with c := decide (2 ^ 32 ≤ a.toNat + b.toNat) } (a + b))
    let subtracted := fun (o : Result) rd (a b : Word) =>
      Writes o s rd (a - b) (withZN { s.flags with c := decide (a.toNat < b.toNat) } (a - b))
    let multiplied := fun (o : Result) rd (a b : Word) =>
      let r : Word := BitVec.ofNat 32 (a.toNat * b.toNat)
      Writes o s rd r (withZN { s.flags with v := decide (2 ^ 32 ≤ a.toNat * b.toNat) } r)
    (∀ rd ra rb, added (exec (.add rd ra rb) s) rd (s.reg ra) (s.reg rb)) ∧
    (∀ rd ra imm, added (exec (.addi rd ra imm) s) rd (s.reg ra) imm) ∧
    (∀ rd ra rb, subtracted (exec (.sub rd ra rb) s) rd (s.reg ra) (s.reg rb)) ∧
    (∀ rd ra imm, subtracted (exec (.subi rd ra imm) s) rd (s.reg ra) imm) ∧
    (∀ rd ra rb, multiplied (exec (.mul rd ra rb) s) rd (s.reg ra) (s.reg rb)) ∧
    (∀ rd ra imm, multiplied (exec (.muli rd ra imm) s) rd (s.reg ra) imm)

/-- DIV, DIVI, MOD, MODI (R604, R605, R609, R610), for every DIV_ROUNDING, DIV0_FLAGS and DIAG_ON_DIV0. -/
def Obligations.DivisionAndRemainder : Prop :=
  (∀ rd ra rb, decode (wordOf 0x23 (regCode rd) (regCode ra) (regCode rb) 0 0 0) = .ok (.div rd ra rb)) ∧
  (∀ rd ra rb, decode (wordOf 0x24 (regCode rd) (regCode ra) (regCode rb) 0 0 0) = .ok (.mod rd ra rb)) ∧
  (∀ rd ra imm, decode (wordOf 0x28 (regCode rd) (regCode ra) 0 0 0 imm) = .ok (.divi rd ra imm)) ∧
  (∀ rd ra imm, decode (wordOf 0x29 (regCode rd) (regCode ra) 0 0 0 imm) = .ok (.modi rd ra imm)) ∧
  ∀ s : State,
    let divided := fun (o : Result) rd (a b : Word) =>
      WritesOut o s rd (divResult s a b) (divFlags s a b) (outAfterDivision s b)
    let reduced := fun (o : Result) rd (a b : Word) =>
      WritesOut o s rd (modResult s a b) (modFlags s a b) (outAfterDivision s b)
    (∀ rd ra rb, divided (exec (.div rd ra rb) s) rd (s.reg ra) (s.reg rb)) ∧
    (∀ rd ra imm, divided (exec (.divi rd ra imm) s) rd (s.reg ra) imm) ∧
    (∀ rd ra rb, reduced (exec (.mod rd ra rb) s) rd (s.reg ra) (s.reg rb)) ∧
    (∀ rd ra imm, reduced (exec (.modi rd ra imm) s) rd (s.reg ra) imm)

/-- POW (R611): the low 32 bits of the exact power, V where the exact power is 2^32 or more; a negative exponent gives the exact
power truncated toward zero. -/
def Obligations.PowerIsExactPowerModuloWord : Prop :=
  (∀ rd ra rb, decode (wordOf 0x2A (regCode rd) (regCode ra) (regCode rb) 0 0 0) = .ok (.pow rd ra rb)) ∧
  ∀ (s : State) rd ra rb,
    let a := s.reg ra
    let e := (s.reg rb).toInt
    let r : Word := if 0 ≤ e then BitVec.ofNat 32 (a.toNat ^ e.toNat) else powerNegative a e
    Writes (exec (.pow rd ra rb) s) s rd r
      (withZN { s.flags with v := decide (0 ≤ e ∧ 2 ^ 32 ≤ a.toNat ^ e.toNat) } r)

/-- SQRT (R612): the largest integer whose square is at most the unsigned operand. -/
def Obligations.SquareRootIsLargest : Prop :=
  (∀ rd ra, decode (wordOf 0x2B (regCode rd) (regCode ra) 0 0 0 0) = .ok (.sqrt rd ra)) ∧
  ∀ (s : State) rd ra, ∃ r : Nat, r * r ≤ (s.reg ra).toNat ∧ (s.reg ra).toNat < (r + 1) * (r + 1) ∧
    Writes (exec (.sqrt rd ra) s) s rd (BitVec.ofNat 32 r) (withZN s.flags (BitVec.ofNat 32 r))

/-- ABS, NEG, INC, DEC (R613-R616), on exact integers: MIN has no positive counterpart and stays MIN, with V. -/
def Obligations.AbsoluteNegateIncrementDecrement : Prop :=
  (∀ rd ra, decode (wordOf 0x2C (regCode rd) (regCode ra) 0 0 0 0) = .ok (.abs rd ra)) ∧
  (∀ rd ra, decode (wordOf 0x2D (regCode rd) (regCode ra) 0 0 0 0) = .ok (.neg rd ra)) ∧
  (∀ rd, decode (wordOf 0x2E (regCode rd) 0 0 0 0 0) = .ok (.inc rd)) ∧
  (∀ rd, decode (wordOf 0x2F (regCode rd) 0 0 0 0 0) = .ok (.dec rd)) ∧
  ∀ s : State,
    (∀ rd ra, let r : Word := BitVec.ofNat 32 (s.reg ra).toInt.natAbs
      Writes (exec (.abs rd ra) s) s rd r
        (withZN { s.flags with v := decide ((s.reg ra).toInt = -2147483648) } r)) ∧
    (∀ rd ra, let r : Word := BitVec.ofInt 32 (-(s.reg ra).toInt)
      Writes (exec (.neg rd ra) s) s rd r
        (withZN { s.flags with v := decide ((s.reg ra).toInt = -2147483648) } r)) ∧
    (∀ rd, Writes (exec (.inc rd) s) s rd (s.reg rd + 1) (withZN s.flags (s.reg rd + 1))) ∧
    (∀ rd, Writes (exec (.dec rd) s) s rd (s.reg rd - 1) (withZN s.flags (s.reg rd - 1)))

/-! # Logic, shifts, bits -/

/-- AND, OR, XOR, NOT, NAND, NOR (R701-R706). -/
def Obligations.BitwiseLogic : Prop :=
  (∀ rd ra rb, decode (wordOf 0x30 (regCode rd) (regCode ra) (regCode rb) 0 0 0) = .ok (.and rd ra rb)) ∧
  (∀ rd ra rb, decode (wordOf 0x31 (regCode rd) (regCode ra) (regCode rb) 0 0 0) = .ok (.or rd ra rb)) ∧
  (∀ rd ra rb, decode (wordOf 0x32 (regCode rd) (regCode ra) (regCode rb) 0 0 0) = .ok (.xor rd ra rb)) ∧
  (∀ rd ra, decode (wordOf 0x33 (regCode rd) (regCode ra) 0 0 0 0) = .ok (.not rd ra)) ∧
  (∀ rd ra rb, decode (wordOf 0x34 (regCode rd) (regCode ra) (regCode rb) 0 0 0) = .ok (.nand rd ra rb)) ∧
  (∀ rd ra rb, decode (wordOf 0x35 (regCode rd) (regCode ra) (regCode rb) 0 0 0) = .ok (.nor rd ra rb)) ∧
  ∀ s : State,
    let wrote := fun (o : Result) rd (r : Word) => Writes o s rd r (withZN s.flags r)
    (∀ rd ra rb, wrote (exec (.and rd ra rb) s) rd (s.reg ra &&& s.reg rb)) ∧
    (∀ rd ra rb, wrote (exec (.or rd ra rb) s) rd (s.reg ra ||| s.reg rb)) ∧
    (∀ rd ra rb, wrote (exec (.xor rd ra rb) s) rd (s.reg ra ^^^ s.reg rb)) ∧
    (∀ rd ra, wrote (exec (.not rd ra) s) rd (~~~ s.reg ra)) ∧
    (∀ rd ra rb, wrote (exec (.nand rd ra rb) s) rd (~~~ (s.reg ra &&& s.reg rb))) ∧
    (∀ rd ra rb, wrote (exec (.nor rd ra rb) s) rd (~~~ (s.reg ra ||| s.reg rb)))

/-- SHL, SHR, ROL, ROR (R707-R710), register and immediate forms, the amount modulo 32: the shifts as multiplication and division
by 2^n, the rotates bit by bit. -/
def Obligations.ShiftsAndRotates : Prop :=
  (∀ rd ra o, decode (wordWithOp2 0x36 (regCode rd) (regCode ra) o) = .ok (.shl rd ra o)) ∧
  (∀ rd ra o, decode (wordWithOp2 0x37 (regCode rd) (regCode ra) o) = .ok (.shr rd ra o)) ∧
  (∀ rd ra o, decode (wordWithOp2 0x38 (regCode rd) (regCode ra) o) = .ok (.rol rd ra o)) ∧
  (∀ rd ra o, decode (wordWithOp2 0x39 (regCode rd) (regCode ra) o) = .ok (.ror rd ra o)) ∧
  ∀ (s : State) rd ra o,
    let a := s.reg ra
    let n := amountOf s o
    (∃ r : Word, r.toNat = a.toNat * 2 ^ n % 2 ^ 32 ∧ Writes (exec (.shl rd ra o) s) s rd r (withZN s.flags r)) ∧
    (∃ r : Word, r.toNat = a.toNat / 2 ^ n ∧ Writes (exec (.shr rd ra o) s) s rd r (withZN s.flags r)) ∧
    (∃ r : Word, (∀ k < 32, r.getLsbD ((k + n) % 32) = a.getLsbD k) ∧
      Writes (exec (.rol rd ra o) s) s rd r (withZN s.flags r)) ∧
    (∃ r : Word, (∀ k < 32, r.getLsbD k = a.getLsbD ((k + n) % 32)) ∧
      Writes (exec (.ror rd ra o) s) s rd r (withZN s.flags r))

/-- SETBIT, CLRBIT, TOGBIT, TESTBIT (R711-R714), bit by bit. -/
def Obligations.SingleBitOperations : Prop :=
  (∀ rd o, decode (wordWithOp2 0x40 (regCode rd) 0 o) = .ok (.setbit rd o)) ∧
  (∀ rd o, decode (wordWithOp2 0x41 (regCode rd) 0 o) = .ok (.clrbit rd o)) ∧
  (∀ rd o, decode (wordWithOp2 0x42 (regCode rd) 0 o) = .ok (.togbit rd o)) ∧
  (∀ ra o, decode (wordWithOp2 0x43 0 (regCode ra) o) = .ok (.testbit ra o)) ∧
  ∀ (s : State) rd o,
    let n := amountOf s o
    let changed := fun (outcome : Result) (new : Bool → Bool) =>
      ∃ r : Word, (∀ k < 32, r.getLsbD k = if k = n then new ((s.reg rd).getLsbD k) else (s.reg rd).getLsbD k) ∧
        Writes outcome s rd r (withZN s.flags r)
    changed (exec (.setbit rd o) s) (fun _ => true) ∧
    changed (exec (.clrbit rd o) s) (fun _ => false) ∧
    changed (exec (.togbit rd o) s) (fun b => !b) ∧
    exec (.testbit rd o) s =
      .next { s with pc := s.pc + 1,
                     flags := { s.flags with z := !(s.reg rd).getLsbD n,
                                             n := decide (n = 31) && (s.reg rd).getLsbD 31 } }

/-- POPCNT and CLZ (R715, R716): the number of bits that are 1; the number of zero bits from bit 31 downward, 32 for input 0. -/
def Obligations.CountingInstructions : Prop :=
  (∀ rd ra, decode (wordOf 0x44 (regCode rd) (regCode ra) 0 0 0 0) = .ok (.popcnt rd ra)) ∧
  (∀ rd ra, decode (wordOf 0x45 (regCode rd) (regCode ra) 0 0 0 0) = .ok (.clz rd ra)) ∧
  ∀ (s : State) rd ra,
    (let r : Word := BitVec.ofNat 32 ((List.range 32).countP fun k => (s.reg ra).getLsbD k)
     Writes (exec (.popcnt rd ra) s) s rd r (withZN s.flags r)) ∧
    ∃ c : Nat, c ≤ 32 ∧ (∀ k, k < 32 → 32 ≤ k + c → (s.reg ra).getLsbD k = false) ∧
      (c < 32 → (s.reg ra).getLsbD (31 - c) = true) ∧
      Writes (exec (.clz rd ra) s) s rd (BitVec.ofNat 32 c) (withZN s.flags (BitVec.ofNat 32 c))

/-! # Comparisons and branches -/

/-- CMP, CMPI, TEST, TESTI (R801-R804): Z, N and C only; no register, no V. -/
def Obligations.Comparisons : Prop :=
  (∀ ra rb, decode (wordOf 0x50 0 (regCode ra) (regCode rb) 0 0 0) = .ok (.cmp ra rb)) ∧
  (∀ ra imm, decode (wordOf 0x51 0 (regCode ra) 0 0 0 imm) = .ok (.cmpi ra imm)) ∧
  (∀ ra rb, decode (wordOf 0x52 0 (regCode ra) (regCode rb) 0 0 0) = .ok (.test ra rb)) ∧
  (∀ ra imm, decode (wordOf 0x53 0 (regCode ra) 0 0 0 imm) = .ok (.testi ra imm)) ∧
  ∀ s : State,
    let compared := fun (a b : Word) =>
      { s with pc := s.pc + 1, flags := withZN { s.flags with c := decide (a.toNat < b.toNat) } (a - b) }
    let tested := fun (a b : Word) =>
      { s with pc := s.pc + 1, flags := withZN { s.flags with c := false } (a &&& b) }
    (∀ ra rb, exec (.cmp ra rb) s = .next (compared (s.reg ra) (s.reg rb))) ∧
    (∀ ra imm, exec (.cmpi ra imm) s = .next (compared (s.reg ra) imm)) ∧
    (∀ ra rb, exec (.test ra rb) s = .next (tested (s.reg ra) (s.reg rb))) ∧
    (∀ ra imm, exec (.testi ra imm) s = .next (tested (s.reg ra) imm))

/-- JMP and the branches on one flag (R811-R815, R820-R823). -/
def Obligations.JumpsAndOneFlagBranches : Prop :=
  ∀ (s : State) (x : Word),
    (decode (wordOf 0x60 0 0 0 0 0 x) = .ok (.jmp x) ∧ exec (.jmp x) s = .next { s with pc := x }) ∧
    (decode (wordOf 0x61 0 0 0 0 0 x) = .ok (.jeq x) ∧ Branches (exec (.jeq x) s) s s.flags.z x) ∧
    (decode (wordOf 0x62 0 0 0 0 0 x) = .ok (.jz x) ∧ Branches (exec (.jz x) s) s s.flags.z x) ∧
    (decode (wordOf 0x63 0 0 0 0 0 x) = .ok (.jne x) ∧ Branches (exec (.jne x) s) s (!s.flags.z) x) ∧
    (decode (wordOf 0x64 0 0 0 0 0 x) = .ok (.jnz x) ∧ Branches (exec (.jnz x) s) s (!s.flags.z) x) ∧
    (decode (wordOf 0x69 0 0 0 0 0 x) = .ok (.jc x) ∧ Branches (exec (.jc x) s) s s.flags.c x) ∧
    (decode (wordOf 0x6A 0 0 0 0 0 x) = .ok (.jnc x) ∧ Branches (exec (.jnc x) s) s (!s.flags.c) x) ∧
    (decode (wordOf 0x6B 0 0 0 0 0 x) = .ok (.jo x) ∧ Branches (exec (.jo x) s) s s.flags.v x) ∧
    (decode (wordOf 0x6C 0 0 0 0 0 x) = .ok (.jno x) ∧ Branches (exec (.jno x) s) s (!s.flags.v) x)

/-- JLT, JGT, JLE, JGE (R816-R819). -/
def Obligations.OrderBranches : Prop :=
  ∀ (s : State) (x : Word),
    (decode (wordOf 0x65 0 0 0 0 0 x) = .ok (.jlt x) ∧
      Branches (exec (.jlt x) s) s (s.flags.n && !s.flags.z) x) ∧
    (decode (wordOf 0x66 0 0 0 0 0 x) = .ok (.jgt x) ∧
      Branches (exec (.jgt x) s) s (!s.flags.n && !s.flags.z) x) ∧
    (decode (wordOf 0x67 0 0 0 0 0 x) = .ok (.jle x) ∧
      Branches (exec (.jle x) s) s (s.flags.n || s.flags.z) x) ∧
    (decode (wordOf 0x68 0 0 0 0 0 x) = .ok (.jge x) ∧
      Branches (exec (.jge x) s) s (!s.flags.n || s.flags.z) x)

/-- A comparison, CMP or CMPI, and the branch after it (R830): JC and JNC are the unsigned order; JEQ and JNE are equality; JLT, JGT,
JLE and JGE are the signed order exactly where the signed difference does not overflow 32 bits, and its contrary where it does. -/
def Obligations.BranchAfterCompare : Prop :=
  ∀ (s t : State) (a b x : Word), Compared s t a b →
    Branches (exec (.jc x) t) t (decide (a.toNat < b.toNat)) x ∧
    Branches (exec (.jnc x) t) t (decide (b.toNat ≤ a.toNat)) x ∧
    Branches (exec (.jeq x) t) t (decide (a = b)) x ∧
    Branches (exec (.jne x) t) t (decide (a ≠ b)) x ∧
    (-2147483648 ≤ a.toInt - b.toInt → a.toInt - b.toInt < 2147483648 →
      Branches (exec (.jlt x) t) t (decide (a.toInt < b.toInt)) x ∧
      Branches (exec (.jgt x) t) t (decide (b.toInt < a.toInt)) x ∧
      Branches (exec (.jle x) t) t (decide (a.toInt ≤ b.toInt)) x ∧
      Branches (exec (.jge x) t) t (decide (b.toInt ≤ a.toInt)) x) ∧
    (a.toInt - b.toInt < -2147483648 ∨ 2147483648 ≤ a.toInt - b.toInt →
      Branches (exec (.jlt x) t) t (decide (b.toInt < a.toInt)) x ∧
      Branches (exec (.jgt x) t) t (decide (a.toInt < b.toInt)) x ∧
      Branches (exec (.jle x) t) t (decide (b.toInt ≤ a.toInt)) x ∧
      Branches (exec (.jge x) t) t (decide (a.toInt ≤ b.toInt)) x)

/-! # The stack -/

/-- PUSH, POP (R901, R902), where the stack has room for the entry pushed. PUSH SP pushes the value before the push, POP SP leaves
the value popped, a POP on an empty stack changes nothing but pc. -/
def Obligations.PushAndPop : Prop :=
  (∀ rs, decode (wordOf 0x70 0 (regCode rs) 0 0 0 0) = .ok (.push rs)) ∧
  (∀ rd, decode (wordOf 0x71 (regCode rd) 0 0 0 0 0) = .ok (.pop rd)) ∧
  (∀ (s : State) rs, s.hasRoom 1 → ∃ t, exec (.push rs) s = .next t ∧ spDown s t 1 ∧
    t = { s with regs := t.regs, stk := s.reg rs :: s.stk, pc := s.pc + 1 }) ∧
  ∀ (s : State) rd,
    (s.stk = [] → exec (.pop rd) s = .next { s with pc := s.pc + 1 }) ∧
    (∀ v rest, s.stk = v :: rest → ∃ t, exec (.pop rd) s = .next t ∧
      (∀ q, t.reg q = if q = rd then v else if q = .sp then s.reg .sp + 1 else s.reg q) ∧
      t = { s with regs := t.regs, stk := rest, pc := s.pc + 1 })

/-- CALL, RET (R903, R904), where the stack has room for the return pc. LR is not written. -/
def Obligations.CallAndReturn : Prop :=
  (∀ x, decode (wordOf 0x72 0 0 0 0 0 x) = .ok (.call x)) ∧ decode (wordOf 0x73 0 0 0 0 0 0) = .ok .ret ∧
  (∀ (s : State) x, s.hasRoom 1 → ∃ t, exec (.call x) s = .next t ∧ spDown s t 1 ∧
    t = { s with regs := t.regs, stk := (s.pc + 1) :: s.stk, pc := x }) ∧
  ∀ s : State,
    (s.stk = [] → exec .ret s = .next { s with pc := s.pc + 1 }) ∧
    (∀ v rest, s.stk = v :: rest → ∃ t, exec .ret s = .next t ∧ spUp s t 1 ∧
      t = { s with regs := t.regs, stk := rest, pc := v })

/-- PUSHA, POPA (R905, R906): PUSHA where the stack has room for eight entries; POPA with `k < 8` entries gives them to R7 downward
and leaves the other registers. -/
def Obligations.PushAllAndPopAll : Prop :=
  decode (wordOf 0x74 0 0 0 0 0 0) = .ok .pusha ∧ decode (wordOf 0x75 0 0 0 0 0 0) = .ok .popa ∧
  (∀ s : State, s.hasRoom 8 → ∃ t, exec .pusha s = .next t ∧ spDown s t 8 ∧
    t = { s with regs := t.regs, pc := s.pc + 1,
                 stk := [s.reg .r7, s.reg .r6, s.reg .r5, s.reg .r4, s.reg .r3, s.reg .r2, s.reg .r1, s.reg .r0]
                   ++ s.stk }) ∧
  ∀ s : State, ∃ t, exec .popa s = .next t ∧
    (∀ j < 8, t.reg (general (7 - j)) = (s.stk[j]?).getD (s.reg (general (7 - j)))) ∧
    t.reg .sp = s.reg .sp + BitVec.ofNat 32 (min 8 s.stk.length) ∧ t.reg .lr = s.reg .lr ∧
    t = { s with regs := t.regs, stk := s.stk.drop 8, pc := s.pc + 1 }

/-- PUSHF, POPF (R907, R908), with the packing of R117: zero 1, carry 2, negative 4, overflow 8; I is neither packed nor written. -/
def Obligations.PushAndPopFlags : Prop :=
  decode (wordOf 0x76 0 0 0 0 0 0) = .ok .pushf ∧ decode (wordOf 0x77 0 0 0 0 0 0) = .ok .popf ∧
  (∀ s : State, s.hasRoom 1 → ∃ t, exec .pushf s = .next t ∧ spDown s t 1 ∧
    t = { s with regs := t.regs, stk := packed s.flags :: s.stk, pc := s.pc + 1 }) ∧
  ∀ s : State,
    (s.stk = [] → exec .popf s = .next { s with pc := s.pc + 1 }) ∧
    (∀ v rest, s.stk = v :: rest → ∃ t, exec .popf s = .next t ∧ spUp s t 1 ∧
      t = { s with regs := t.regs, stk := rest, flags := unpackedInto s.flags v, pc := s.pc + 1 })

/-- A push onto a full stack of finite capacity is refused, as a whole (R123, R124, R905). How the refusal shows is the model's
(log entry 12). -/
def Obligations.FullStackRefusesPushes : Prop :=
  (∀ s : State, s.par.stackCapacity = some s.stk.length →
    (∀ rs, exec (.push rs) s = .refused .stackFull) ∧ (∀ x, exec (.call x) s = .refused .stackFull) ∧
    exec .pushf s = .refused .stackFull) ∧
  ∀ (s : State) n, s.par.stackCapacity = some n → s.stk.length ≤ n → n < s.stk.length + 8 →
    exec .pusha s = .refused .stackFull

/-- What is pushed is what is popped: PUSHA then POPA restores R0..R7, SP and the stack (R906); PUSH then POP moves one register
(R902); a POPF with the stack as PUSHF left it, whatever came between, restores the four flags and keeps I; and a RET with the stack as CALL left it, whatever the subroutine did to
everything else, resumes behind the CALL (R910). -/
def Obligations.BalancedStackUse : Prop :=
  (∀ s t : State, exec .pusha s = .next t → ∃ u, exec .popa t = .next u ∧ u = { s with pc := s.pc + 2 }) ∧
  (∀ (s t : State) r q, exec (.push r) s = .next t → ∃ u, exec (.pop q) t = .next u ∧
    (∀ p, u.reg p = if p = q then s.reg r else s.reg p) ∧ u = { s with regs := u.regs, pc := s.pc + 2 }) ∧
  (∀ s t : State, exec .pushf s = .next t → ∀ u : State, u.stk = t.stk →
    ∃ v, exec .popf u = .next v ∧ spUp u v 1 ∧
      v = { u with regs := v.regs, stk := s.stk, flags := { s.flags with i := u.flags.i }, pc := u.pc + 1 }) ∧
  (∀ (s t : State) x, exec (.call x) s = .next t → ∀ u : State, u.stk = t.stk →
    ∃ v, exec .ret u = .next v ∧ spUp u v 1 ∧ v = { u with regs := v.regs, stk := s.stk, pc := s.pc + 1 })

/-! # Interrupts -/

/-- CLI, STI, IRET (R1103-R1105): IRET pops the packed flags, then the pc, each pop its own no-op on an empty stack, and writes
IRET_IF_VALUE to I. -/
def Obligations.InterruptFlagAndReturn : Prop :=
  decode (wordOf 0x81 0 0 0 0 0 0) = .ok .cli ∧ decode (wordOf 0x82 0 0 0 0 0 0) = .ok .sti ∧
  decode (wordOf 0x83 0 0 0 0 0 0) = .ok .iret ∧
  ∀ s : State,
    exec .cli s = .next { s with flags := { s.flags with i := false }, pc := s.pc + 1 } ∧
    exec .sti s = .next { s with flags := { s.flags with i := true }, pc := s.pc + 1 } ∧
    (s.stk = [] → exec .iret s =
      .next { s with flags := { s.flags with i := s.par.iretIfValue }, pc := s.pc + 1 }) ∧
    (∀ f, s.stk = [f] → ∃ t, exec .iret s = .next t ∧ spUp s t 1 ∧
      t = { s with regs := t.regs, stk := [], pc := s.pc + 1,
                   flags := { unpackedInto s.flags f with i := s.par.iretIfValue } }) ∧
    (∀ f v rest, s.stk = f :: v :: rest → ∃ t, exec .iret s = .next t ∧ spUp s t 2 ∧
      t = { s with regs := t.regs, stk := rest, pc := v,
                   flags := { unpackedInto s.flags f with i := s.par.iretIfValue } })

/-- INT (R1138, and the frame of R1100): every interrupt number completes; pc advances by 1; no flag, no stack entry, no data cell,
no register but R0 changes, nor RUN, the program or the parameters; a number with no service puts out its diagnostic and changes
nothing else. -/
def Obligations.SoftwareInterruptCompletes : Prop :=
  (∀ n, decode (wordOf 0x80 0 0 0 0 0 n) = .ok (.int n)) ∧
  (∀ (s : State) n, ∃ t, exec (.int n) s = .next t ∧ (∀ q, q ≠ .r0 → t.reg q = s.reg q) ∧
    t = { s with regs := t.regs, pc := s.pc + 1, kbd := t.kbd, fb := t.fb, cur := t.cur, color := t.color,
                 out := t.out, audio := t.audio, draws := t.draws }) ∧
  (∀ (s : State) n, s.par.intMap.lookup n = none →
    exec (.int n) s = .next { s with out := s.out ++ [.diag (.unknownInt n)], pc := s.pc + 1 })

/-- The default INT_MAP (R1101): the 27 numbers and their services, and no other number. -/
def Obligations.DefaultInterruptMap : Prop :=
  let m := State.reset.par.intMap
  m.lookup 0x00 = some .printChar ∧ m.lookup 0x01 = some .printNum ∧ m.lookup 0x02 = some .printHex ∧
  m.lookup 0x03 = some .printBin ∧ m.lookup 0x10 = some .screenClear ∧ m.lookup 0x11 = some .screenSetPixel ∧
  m.lookup 0x12 = some .screenGetPixel ∧ m.lookup 0x13 = some .screenSetColor ∧
  m.lookup 0x14 = some .screenDrawLine ∧ m.lookup 0x15 = some .screenDrawRect ∧
  m.lookup 0x16 = some .screenFillRect ∧ m.lookup 0x17 = some .screenDrawCircle ∧
  m.lookup 0x18 = some .screenSetCursor ∧ m.lookup 0x19 = some .screenPrintChar ∧
  m.lookup 0x20 = some .kbdEnable ∧ m.lookup 0x21 = some .kbdDisable ∧ m.lookup 0x22 = some .kbdSetHandler ∧
  m.lookup 0x23 = some .kbdScancode ∧ m.lookup 0x24 = some .kbdAscii ∧ m.lookup 0x25 = some .kbdRead ∧
  m.lookup 0x26 = some .kbdStatus ∧ m.lookup 0x27 = some .kbdBufsize ∧ m.lookup 0x28 = some .kbdClear ∧
  m.lookup 0x30 = some .random ∧ m.lookup 0x31 = some .getTime ∧ m.lookup 0x40 = some .beep ∧
  m.lookup 0x41 = some .playTone ∧
  ∀ n : Word, n ∉ [0x00, 0x01, 0x02, 0x03, 0x10, 0x11, 0x12, 0x13, 0x14, 0x15, 0x16, 0x17, 0x18, 0x19, 0x20, 0x21,
    0x22, 0x23, 0x24, 0x25, 0x26, 0x27, 0x28, 0x30, 0x31, 0x40, 0x41] → m.lookup n = none

/-- The print services (R1106-R1110), under whatever number they have. -/
def Obligations.PrintServices : Prop :=
  ∀ (s : State) n,
    (Serves s n .printChar → exec (.int n) s = .next { s with out := s.out ++ [.char (pval s)], pc := s.pc + 1 }) ∧
    (Serves s n .printNum → exec (.int n) s = .next { s with out := s.out ++ [.num (pval s)], pc := s.pc + 1 }) ∧
    (Serves s n .printHex → exec (.int n) s = .next { s with out := s.out ++ [.hex (pval s)], pc := s.pc + 1 }) ∧
    (Serves s n .printBin → exec (.int n) s = .next { s with out := s.out ++ [.bin (pval s)], pc := s.pc + 1 })

/-- The keyboard services (R1125-R1133), under whatever number they have. -/
def Obligations.KeyboardServices : Prop :=
  ∀ (s : State) n,
    let kept := fun (k : Keyboard) => exec (.int n) s = .next { s with kbd := k, pc := s.pc + 1 }
    let read := fun (v : Word) => Writes (exec (.int n) s) s .r0 v s.flags
    (Serves s n .kbdEnable → kept { s.kbd with enabled := true }) ∧
    (Serves s n .kbdDisable → kept { s.kbd with enabled := false }) ∧
    (Serves s n .kbdSetHandler → kept { s.kbd with handler := s.reg .r0, handlerValid := true }) ∧
    (Serves s n .kbdScancode → read s.kbd.lastScan) ∧
    (Serves s n .kbdAscii → read s.kbd.lastAscii) ∧
    (Serves s n .kbdRead →
      (s.kbd.queue = [] → read 0) ∧
      ∀ scan ascii rest, s.kbd.queue = (scan, ascii) :: rest → ∃ t, exec (.int n) s = .next t ∧
        (∀ q, t.reg q = if q = .r0 then ascii else s.reg q) ∧
        t = { s with regs := t.regs, kbd := { s.kbd with queue := rest }, pc := s.pc + 1 }) ∧
    (Serves s n .kbdStatus → read (if s.kbd.queue = [] then 0 else 1)) ∧
    (Serves s n .kbdBufsize → read (BitVec.ofNat 32 s.kbd.queue.length)) ∧
    (Serves s n .kbdClear → kept { s.kbd with queue := [] })

/-- RANDOM, GET_TIME, BEEP, PLAY_TONE (R1134-R1137): a draw is a free value, one more is counted as drawn (log entry 6), and only
R0 takes it; a trigger puts its record on the audio port and changes nothing else. -/
def Obligations.DrawAndAudioServices : Prop :=
  ∀ (s : State) n,
    (Serves s n .random → ∃ t, exec (.int n) s = .next t ∧
      (∀ q, t.reg q = if q = .r0 then Config.randomDraw s.draws else s.reg q) ∧
      t = { s with regs := t.regs, draws := s.draws + 1, pc := s.pc + 1 }) ∧
    (Serves s n .getTime → ∃ t, exec (.int n) s = .next t ∧
      (∀ q, t.reg q = if q = .r0 then Config.timeDraw s.draws else s.reg q) ∧
      t = { s with regs := t.regs, draws := s.draws + 1, pc := s.pc + 1 }) ∧
    (Serves s n .beep → exec (.int n) s = .next { s with audio := s.audio ++ [.beep], pc := s.pc + 1 }) ∧
    (Serves s n .playTone →
      exec (.int n) s = .next { s with audio := s.audio ++ [.tone (s.reg .r0) (s.reg .r1)], pc := s.pc + 1 })

/-! # The screen -/

/-- SCREEN_CLEAR, SCREEN_SET_PIXEL, SCREEN_GET_PIXEL, SCREEN_SET_COLOR, SCREEN_SET_CURSOR (R1113-R1116, R1123), with plot of R1112:
coordinates are signed, what is off the screen is dropped and reads as 0. The premise is the canonical form of the framebuffer,
which every step keeps (StepKeepsInvariant). -/
def Obligations.PixelColorAndCursorServices : Prop :=
  ∀ (s : State) n, s.fb.wf = true →
    let here : Point := ((s.reg .r0).toInt, (s.reg .r1).toInt)
    (Serves s n .screenClear → Draws (exec (.int n) s) s (fun _ => True) 0) ∧
    (Serves s n .screenSetPixel → Draws (exec (.int n) s) s (fun p => p = here) (s.reg .r2)) ∧
    (Serves s n .screenGetPixel →
      (OnScreen here → Writes (exec (.int n) s) s .r0 (pixel s.fb here) s.flags) ∧
      (¬ OnScreen here → Writes (exec (.int n) s) s .r0 0 s.flags)) ∧
    (Serves s n .screenSetColor → exec (.int n) s = .next { s with color := s.reg .r0, pc := s.pc + 1 }) ∧
    (Serves s n .screenSetCursor →
      exec (.int n) s = .next { s with cur := { cx := s.reg .r0, cy := s.reg .r1 }, pc := s.pc + 1 })

/-- SCREEN_DRAW_RECT and SCREEN_FILL_RECT (R1119, R1120): exactly the points of the outline, or of the whole area, take the active
colour; a width or height of 0 or less draws nothing. -/
def Obligations.RectangleServices : Prop :=
  ∀ (s : State) n, s.fb.wf = true →
    let x0 := (s.reg .r0).toInt
    let y0 := (s.reg .r1).toInt
    let wd := (s.reg .r2).toInt
    let ht := (s.reg .r3).toInt
    (Serves s n .screenDrawRect → Draws (exec (.int n) s) s
      (fun p => InRect x0 y0 wd ht p ∧ (p.1 = x0 ∨ p.1 = x0 + wd - 1 ∨ p.2 = y0 ∨ p.2 = y0 + ht - 1)) s.color) ∧
    (Serves s n .screenFillRect → Draws (exec (.int n) s) s (InRect x0 y0 wd ht) s.color)

/-- SCREEN_DRAW_LINE and SCREEN_DRAW_CIRCLE (R1117, R1121): exactly the points of LinePixels, or of CirclePixels, take the active
colour; a negative radius draws nothing. -/
def Obligations.LineAndCircleServices : Prop :=
  ∀ (s : State) n, s.fb.wf = true →
    (Serves s n .screenDrawLine → Draws (exec (.int n) s) s
      (fun p => p ∈ linePixels s.par.lineAlgorithm (s.reg .r0).toInt (s.reg .r1).toInt (s.reg .r2).toInt
        (s.reg .r3).toInt) s.color) ∧
    (Serves s n .screenDrawCircle → Draws (exec (.int n) s) s
      (fun p => 0 ≤ (s.reg .r2).toInt ∧
        p ∈ circlePixels s.par.circleAlgorithm (s.reg .r0).toInt (s.reg .r1).toInt (s.reg .r2).toInt.toNat) s.color)

/-- Every LinePixels keeps the properties that R1118 demands: both end points are included, the set is 8-connected, and a
horizontal, vertical or 45-degree line gives the exact straight run. Of the default algorithm this is a theorem for all end
points; of another choice it holds because the model takes no other (log entry 8). -/
def Obligations.LinePixelsKeepDemandedProperties : Prop :=
  ∀ alg x0 y0 x1 y1,
    let ps := linePixels alg x0 y0 x1 y1
    (x0, y0) ∈ ps ∧ (x1, y1) ∈ ps ∧ Connected8 ps ∧
    (x0 = x1 ∨ y0 = y1 ∨ (x1 - x0).natAbs = (y1 - y0).natAbs → ∀ p, p ∈ ps ↔ OnRun x0 y0 x1 y1 p)

/-- Every CirclePixels keeps the properties that R1122 demands: the set is symmetric in all eight octants about the centre, it
contains the four axis points, and radius 0 gives the centre alone. Another choice than the default is taken only where it keeps
them (log entry 8). -/
def Obligations.CirclePixelsKeepDemandedProperties : Prop :=
  ∀ alg cx cy r,
    let ps := circlePixels alg cx cy r
    (∀ a b : Int, (cx + a, cy + b) ∈ ps →
      (cx - a, cy + b) ∈ ps ∧ (cx + a, cy - b) ∈ ps ∧ (cx + b, cy + a) ∈ ps) ∧
    (cx + r, cy) ∈ ps ∧ (cx - r, cy) ∈ ps ∧ (cx, cy + r) ∈ ps ∧ (cx, cy - r) ∈ ps ∧
    (r = 0 → ∀ p, p ∈ ps ↔ p = (cx, cy))

/-- SCREEN_PRINT_CHAR (R1124), what may be assumed of it: it changes only the framebuffer and the cursor; a pixel it changes takes
COLOR or 0; and what it does is a function of the framebuffer, the cursor, the colour and R0. -/
def Obligations.PrintCharOnScreen : Prop :=
  (∀ (s : State) n, s.fb.wf = true → Serves s n .screenPrintChar → ∃ t, exec (.int n) s = .next t ∧
    (∀ p, OnScreen p → pixel t.fb p = pixel s.fb p ∨ pixel t.fb p = s.color ∨ pixel t.fb p = 0) ∧
    t = { s with fb := t.fb, cur := t.cur, pc := s.pc + 1 }) ∧
  ∀ s s' t t' n n', Serves s n .screenPrintChar → Serves s' n' .screenPrintChar →
    s.fb = s'.fb → s.cur = s'.cur → s.color = s'.color → s.reg .r0 = s'.reg .r0 →
    exec (.int n) s = .next t → exec (.int n') s' = .next t' → t.fb = t'.fb ∧ t.cur = t'.cur

/-! # The keyboard interrupt -/

/-- A key event (R1203, R1204, R1206): it updates the keyboard device; where it vectors and the stack has room for two entries, pc
and the packed flags are pushed, pc is the handler and F.I is 1. The model's choices: where the room is missing (R123, R124) the
event is refused as a whole, its effect on the keyboard device included (log entry 12); and an event that vectors ends an
auto-advance in progress, so that the handler's first instruction runs at the next Step command (R1206; log entry 4). -/
def Obligations.KeyEvent : Prop :=
  ∀ (s : State) scan ascii q, s.sched = .host (.key scan ascii) :: q →
    (¬ Vectors s → step s = .next { s with kbd := keyboardAfter s.kbd scan ascii, sched := q }) ∧
    (Vectors s → s.hasRoom 2 → ∃ t, step s = .next t ∧ spDown s t 2 ∧
      t = { s with regs := t.regs, kbd := keyboardAfter s.kbd scan ascii, sched := q,
                   stk := packed s.flags :: s.pc :: s.stk, pc := s.kbd.handler,
                   flags := { s.flags with i := true }, advancing := false }) ∧
    (∀ n, Vectors s → s.par.stackCapacity = some n → s.stk.length ≤ n → n < s.stk.length + 2 →
      step s = .refused .stackFull)

/-- The return from the handler (R1207): an IRET with the stack as the entry left it, whatever the handler did to everything else,
restores pc and the four flags exactly and makes F.I the value IRET_IF_VALUE. -/
def Obligations.IretUndoesKeyboardEntry : Prop :=
  ∀ (s t : State) scan ascii q, s.sched = .host (.key scan ascii) :: q → Vectors s → step s = .next t →
    ∀ u : State, u.stk = t.stk → ∃ v, exec .iret u = .next v ∧ spUp u v 2 ∧
      v = { u with regs := v.regs, stk := s.stk, pc := s.pc,
                   flags := { s.flags with i := u.par.iretIfValue } }

/-! # Whole-machine rules -/

/-- Which instructions write each flag (R111-R115): C, V and I only those that the spec lists; Z and N not by control, data
movement, branches, stack and interrupt instructions, but for RESET, POPF and IRET. -/
def Obligations.FlagsWrittenOnlyBy : Prop :=
  ∀ (i : Instr) (s t : State), exec i s = .next t →
    (writesC i = false → t.flags.c = s.flags.c) ∧ (writesV i = false → t.flags.v = s.flags.v) ∧
    (writesI i = false → t.flags.i = s.flags.i) ∧
    (keepsZN i = true → t.flags.z = s.flags.z ∧ t.flags.n = s.flags.n)

/-- Which registers an instruction may write (R102, R103), and pc (R405, R406): its destination, SP where it pushes or pops, R0 for
the dispatcher; LR never implicitly; pc advances by 1 but for the instructions that R405 lists, and HALT keeps it. -/
def Obligations.RegistersAndPcWrittenOnlyBy : Prop :=
  ∀ (i : Instr) (s t : State), exec i s = .next t →
    (∀ q, ¬ mayWrite i q → t.reg q = s.reg q) ∧ (setsPc i = false → t.pc = s.pc + 1) ∧
    (i = .halt → t.pc = s.pc)

/-- The four storage spaces and the ports stay apart (R200): the program is never written, data memory only by stores, the stack only
by stack instructions and IRET, the devices and the audio port only by INT, RUN only by HALT, the trace port only by DEBUG; RESET
writes data memory and the stack besides. The schedule, the parameters and `advancing` are no instruction's. -/
def Obligations.StorageWrittenOnlyBy : Prop :=
  ∀ (i : Instr) (s t : State), exec i s = .next t →
    t.imem = s.imem ∧ t.par = s.par ∧ t.sched = s.sched ∧ t.advancing = s.advancing ∧
    (writesDmem i = false → t.dmem = s.dmem) ∧ (writesStk i = false → t.stk = s.stk) ∧
    (isInt i = false → t.kbd = s.kbd ∧ t.fb = s.fb ∧ t.cur = s.cur ∧ t.color = s.color ∧ t.audio = s.audio ∧
      t.draws = s.draws) ∧
    (i ≠ .halt → t.run = s.run) ∧ (i ≠ .debug → t.trace = s.trace) ∧ (mayPutOut i = false → t.out = s.out)

/-- SP counts the entries pushed and popped (R102, R126): unless an instruction writes SP itself, SP plus the depth of the stack stays
the same, modulo 2^32. -/
def Obligations.StackCounterFollowsDepth : Prop :=
  ∀ (i : Instr) (s t : State), exec i s = .next t → ¬ namesSp i →
    t.reg .sp + BitVec.ofNat 32 t.stk.length = s.reg .sp + BitVec.ofNat 32 s.stk.length

/-- RUN changes only as the table of R411 allows: in IDLE, HALTED and STOPPED by a Run command to RUNNING, by a Step-start command
to STEPPING, by either to HALTED for an empty program; in RUNNING by an engine's step, in STEPPING by a Step command or what is left
of its auto-advance (log entry 4), to HALTED; in both by a Stop command to STOPPED; by a Reset command to IDLE. The program changes
only when a Run or Step-start command loads one (R217). -/
def Obligations.RunAndProgramChangeOnlyAsAllowed : Prop :=
  ∀ s t : State, step s = .next t →
    (t.imem ≠ s.imem → s.atRest ∧ ∃ q, s.sched = .host (.run t.imem) :: q ∨ s.sched = .host (.stepStart t.imem) :: q) ∧
    (t.run ≠ s.run →
      (s.atRest ∧ ∃ p q,
        (s.sched = .host (.run p) :: q ∧ t.run = if p = [] then .halted else .running) ∨
        (s.sched = .host (.stepStart p) :: q ∧ t.run = if p = [] then .halted else .stepping)) ∨
      (s.run = .running ∧ (∃ s₀, EnginesTurn s s₀) ∧ t.run = .halted) ∨
      (s.run = .stepping ∧ t.run = .halted ∧
        ((∃ q, s.sched = .host .step :: q) ∨ (s.advancing = true ∧ ∃ s₀, EnginesTurn s s₀))) ∨
      ((s.run = .running ∨ s.run = .stepping) ∧ (∃ q, s.sched = .host .stop :: q) ∧ t.run = .stopped) ∨
      (ResetsNext s ∧ t.run = .idle))

/-- Every step keeps the invariant of Safety.lean: canonical memories in range, a keyboard queue of at most 16 entries (R131), a
stack within its capacity (R123), a program of at most 2^32-1 words (R121), an auto-advance only in STEPPING and at a blank line
(R415; log entry 4). -/
def Obligations.StepKeepsInvariant : Prop := ∀ s t : State, s.Inv → step s = .next t → t.Inv

/-- The machine after reset meets the invariant. -/
def Obligations.ResetMeetsInvariant : Prop := State.reset.Inv

/-- The engine never stops (R1200): with a stack of unbounded capacity (the default, R123) and a schedule whose programs have the
length R121 allows, every number of turns from every state answers a next state: no fault, no refusal. -/
def Obligations.EngineNeverStops : Prop :=
  ∀ (k : Nat) (s : State), s.par.stackCapacity = none → (∀ x ∈ s.sched, x.wellSized) →
    ∃ t, turns k s = .next t

/-- Mode independence (R410): k turns in run mode and k Step commands in step mode, with no other host action between them, leave the
same state: all of it but RUN where the run goes on, and the model's own `advancing`; and the one is refused exactly where the
other is. Each Step command comes before the auto-advance of the one before it was run, so a blank line takes a Step of its own:
that a command may come there is R415's, that the model has a turn there is log entry 4. -/
def Obligations.StepModeEqualsRunMode : Prop :=
  ∀ (k : Nat) (s : State), s.run = .running → s.sched = [] →
    let stepped := turns k { s with run := .stepping, sched := List.replicate k (.host .step) }
    (∀ t, turns k s = .next t →
      ∃ u, stepped = .next u ∧ u = { t with run := asStepping t.run, advancing := u.advancing }) ∧
    (∀ r, turns k s = .refused r → stepped = .refused r)
end

