-- ==== Sys2Proof/Laws/Decode.lean ====
section
/-! SUPPORT. The bit-level facts of the instruction word: the fields of a word and the word of fields are inverse, and so are
register codes and registers. -/

namespace Sys2Proof

@[simp] theorem Reg.ofCode_code (r : Reg) : Reg.ofCode r.code = some r := by cases r <;> rfl

theorem Reg.code_lt (r : Reg) : r.code.toNat < 10 := by cases r <;> decide

/-- The code of a decoded register is the code it was decoded from (R304). -/
theorem Reg.code_of_ofCode {c : BitVec 4} {r : Reg} (h : Reg.ofCode c = some r) : r.code = c := by
  revert r c
  decide

/-- A code names a register exactly when it is below 10 (R304). -/
theorem Reg.ofCode_isSome (c : BitVec 4) : (Reg.ofCode c).isSome = decide (c.toNat < 10) := by
  revert c
  decide

@[simp] theorem usedReg_code (r : Reg) : usedReg r.code = .ok r := by simp [usedReg]

/-- A used register field that holds a register's code passes its check. -/
@[simp] theorem regFieldOk_code (r : Reg) : regFieldOk true r.code = true := by
  simpa [regFieldOk] using r.code_lt

/-- One bit of the word of fields (R301). -/
theorem Fields.toWord_bit (f : Fields) (j : Nat) :
    f.toWord.getLsbD j =
      if j < 32 then f.imm.getLsbD j
      else if j < 42 then f.rsv.getLsbD (j - 32)
      else if j < 43 then (f.b && decide (j = 42))
      else if j < 44 then (f.m && decide (j = 43))
      else if j < 48 then f.rb.getLsbD (j - 44)
      else if j < 52 then f.ra.getLsbD (j - 48)
      else if j < 56 then f.rd.getLsbD (j - 52)
      else f.opc.getLsbD (j - 56) := by
  have h : f.toWord.getLsbD j =
      BitVec.getLsbD (w := 8 + 4 + 4 + 4 + 1 + 1 + 10 + 32)
        (f.opc ++ f.rd ++ f.ra ++ f.rb ++ BitVec.ofBool f.m ++ BitVec.ofBool f.b ++ f.rsv ++ f.imm) j := rfl
  rw [h]
  simp only [BitVec.getLsbD_append, BitVec.getLsbD_ofBool]
  by_cases h1 : j < 32
  · simp [h1]
  · have e1 : (j - 32 < 10) = (j < 42) := by simp only [eq_iff_iff]; omega
    have e2 : (j - 42 < 1) = (j < 43) := by simp only [eq_iff_iff]; omega
    have e3 : (j - 43 < 1) = (j < 44) := by simp only [eq_iff_iff]; omega
    have e4 : (j - 44 < 4) = (j < 48) := by simp only [eq_iff_iff]; omega
    have e5 : (j - 48 < 4) = (j < 52) := by simp only [eq_iff_iff]; omega
    have e6 : (j - 52 < 4) = (j < 56) := by simp only [eq_iff_iff]; omega
    simp only [h1, if_false, Nat.sub_sub, Nat.reduceAdd]
    simp only [e1, e2, e3, e4, e5, e6]
    split
    · rfl
    split
    · have : j = 42 := by omega
      subst this
      simp
    split
    · have : j = 43 := by omega
      subst this
      simp
    rfl

/-- The fields of the word of fields (R301). -/
@[simp] theorem Fields.ofWord_toWord (f : Fields) : Fields.ofWord f.toWord = f := by
  obtain ⟨opc, rd, ra, rb, m, b, rsv, imm⟩ := f
  simp only [Fields.ofWord, Fields.mk.injEq]
  refine ⟨?_, ?_, ?_, ?_, ?_, ?_, ?_, ?_⟩
  case refine_5 => simp only [Fields.toWord_bit]; simp
  case refine_6 => simp only [Fields.toWord_bit]; simp
  all_goals
    apply BitVec.eq_of_getLsbD_eq
    intro j hj
    simp only [BitVec.getLsbD_extractLsb', Fields.toWord_bit]
    simp only [hj, decide_true, Bool.true_and]
    repeat (rw [if_neg (by omega)])
    try rw [if_pos (by omega)]
    congr 1
    omega

/-- The word of the fields of a word (R301). -/
@[simp] theorem Fields.toWord_ofWord (w : InstrWord) : (Fields.ofWord w).toWord = w := by
  have bit (base n j : Nat) (h : j - base < n) (hb : base ≤ j) :
      (decide (j - base < n) && w.getLsbD (base + (j - base))) = w.getLsbD j := by
    simp only [h, decide_true, Bool.true_and]
    congr 1
    omega
  apply BitVec.eq_of_getLsbD_eq
  intro j hj
  rw [Fields.toWord_bit]
  simp only [Fields.ofWord, BitVec.getLsbD_extractLsb']
  split
  · simp [*]
  split
  · exact bit 32 10 j (by omega) (by omega)
  split
  · have : j = 42 := by omega
    subst this
    simp
  split
  · have : j = 43 := by omega
    subst this
    simp
  split
  · exact bit 44 4 j (by omega) (by omega)
  split
  · exact bit 48 4 j (by omega) (by omega)
  split
  · exact bit 52 4 j (by omega) (by omega)
  · exact bit 56 8 j (by omega) (by omega)

/-- The fields of an encoded instruction. -/
@[simp] theorem ofWord_encode (i : Instr) : Fields.ofWord (encode i) = encodeFields i := Fields.ofWord_toWord _

end Sys2Proof
end

