-- ==== Sys2Proof/Laws/State.lean ====
section
/-! SUPPORT. One lemma per field per update of State, each true by rfl, so that no later proof unfolds a record update; the
same for the flag updates and for reading a register. -/

namespace Sys2Proof.Machine

variable (s : State)

/-! setReg -/

@[simp] theorem State.setReg_regs (r : Reg) (v : Word) : (s.setReg r v).regs = s.regs.write r v := rfl
@[simp] theorem State.setReg_pc (r : Reg) (v : Word) : (s.setReg r v).pc = s.pc := rfl
@[simp] theorem State.setReg_flags (r : Reg) (v : Word) : (s.setReg r v).flags = s.flags := rfl
@[simp] theorem State.setReg_run (r : Reg) (v : Word) : (s.setReg r v).run = s.run := rfl
@[simp] theorem State.setReg_dmem (r : Reg) (v : Word) : (s.setReg r v).dmem = s.dmem := rfl
@[simp] theorem State.setReg_imem (r : Reg) (v : Word) : (s.setReg r v).imem = s.imem := rfl
@[simp] theorem State.setReg_stk (r : Reg) (v : Word) : (s.setReg r v).stk = s.stk := rfl
@[simp] theorem State.setReg_kbd (r : Reg) (v : Word) : (s.setReg r v).kbd = s.kbd := rfl
@[simp] theorem State.setReg_fb (r : Reg) (v : Word) : (s.setReg r v).fb = s.fb := rfl
@[simp] theorem State.setReg_cur (r : Reg) (v : Word) : (s.setReg r v).cur = s.cur := rfl
@[simp] theorem State.setReg_color (r : Reg) (v : Word) : (s.setReg r v).color = s.color := rfl
@[simp] theorem State.setReg_out (r : Reg) (v : Word) : (s.setReg r v).out = s.out := rfl
@[simp] theorem State.setReg_audio (r : Reg) (v : Word) : (s.setReg r v).audio = s.audio := rfl
@[simp] theorem State.setReg_trace (r : Reg) (v : Word) : (s.setReg r v).trace = s.trace := rfl
@[simp] theorem State.setReg_par (r : Reg) (v : Word) : (s.setReg r v).par = s.par := rfl
@[simp] theorem State.setReg_draws (r : Reg) (v : Word) : (s.setReg r v).draws = s.draws := rfl
@[simp] theorem State.setReg_advancing (r : Reg) (v : Word) : (s.setReg r v).advancing = s.advancing := rfl
@[simp] theorem State.setReg_sched (r : Reg) (v : Word) : (s.setReg r v).sched = s.sched := rfl

/-! setFlags -/

@[simp] theorem State.setFlags_regs (f : Flags) : (s.setFlags f).regs = s.regs := rfl
@[simp] theorem State.setFlags_pc (f : Flags) : (s.setFlags f).pc = s.pc := rfl
@[simp] theorem State.setFlags_flags (f : Flags) : (s.setFlags f).flags = f := rfl
@[simp] theorem State.setFlags_run (f : Flags) : (s.setFlags f).run = s.run := rfl
@[simp] theorem State.setFlags_dmem (f : Flags) : (s.setFlags f).dmem = s.dmem := rfl
@[simp] theorem State.setFlags_imem (f : Flags) : (s.setFlags f).imem = s.imem := rfl
@[simp] theorem State.setFlags_stk (f : Flags) : (s.setFlags f).stk = s.stk := rfl
@[simp] theorem State.setFlags_kbd (f : Flags) : (s.setFlags f).kbd = s.kbd := rfl
@[simp] theorem State.setFlags_fb (f : Flags) : (s.setFlags f).fb = s.fb := rfl
@[simp] theorem State.setFlags_cur (f : Flags) : (s.setFlags f).cur = s.cur := rfl
@[simp] theorem State.setFlags_color (f : Flags) : (s.setFlags f).color = s.color := rfl
@[simp] theorem State.setFlags_out (f : Flags) : (s.setFlags f).out = s.out := rfl
@[simp] theorem State.setFlags_audio (f : Flags) : (s.setFlags f).audio = s.audio := rfl
@[simp] theorem State.setFlags_trace (f : Flags) : (s.setFlags f).trace = s.trace := rfl
@[simp] theorem State.setFlags_par (f : Flags) : (s.setFlags f).par = s.par := rfl
@[simp] theorem State.setFlags_draws (f : Flags) : (s.setFlags f).draws = s.draws := rfl
@[simp] theorem State.setFlags_advancing (f : Flags) : (s.setFlags f).advancing = s.advancing := rfl
@[simp] theorem State.setFlags_sched (f : Flags) : (s.setFlags f).sched = s.sched := rfl
@[simp] theorem State.setFlags_reg (f : Flags) (q : Reg) : (s.setFlags f).reg q = s.reg q := rfl

/-! setPc -/

@[simp] theorem State.setPc_regs (p : Word) : (s.setPc p).regs = s.regs := rfl
@[simp] theorem State.setPc_pc (p : Word) : (s.setPc p).pc = p := rfl
@[simp] theorem State.setPc_flags (p : Word) : (s.setPc p).flags = s.flags := rfl
@[simp] theorem State.setPc_run (p : Word) : (s.setPc p).run = s.run := rfl
@[simp] theorem State.setPc_dmem (p : Word) : (s.setPc p).dmem = s.dmem := rfl
@[simp] theorem State.setPc_imem (p : Word) : (s.setPc p).imem = s.imem := rfl
@[simp] theorem State.setPc_stk (p : Word) : (s.setPc p).stk = s.stk := rfl
@[simp] theorem State.setPc_kbd (p : Word) : (s.setPc p).kbd = s.kbd := rfl
@[simp] theorem State.setPc_fb (p : Word) : (s.setPc p).fb = s.fb := rfl
@[simp] theorem State.setPc_cur (p : Word) : (s.setPc p).cur = s.cur := rfl
@[simp] theorem State.setPc_color (p : Word) : (s.setPc p).color = s.color := rfl
@[simp] theorem State.setPc_out (p : Word) : (s.setPc p).out = s.out := rfl
@[simp] theorem State.setPc_audio (p : Word) : (s.setPc p).audio = s.audio := rfl
@[simp] theorem State.setPc_trace (p : Word) : (s.setPc p).trace = s.trace := rfl
@[simp] theorem State.setPc_par (p : Word) : (s.setPc p).par = s.par := rfl
@[simp] theorem State.setPc_draws (p : Word) : (s.setPc p).draws = s.draws := rfl
@[simp] theorem State.setPc_advancing (p : Word) : (s.setPc p).advancing = s.advancing := rfl
@[simp] theorem State.setPc_sched (p : Word) : (s.setPc p).sched = s.sched := rfl
@[simp] theorem State.setPc_reg (p : Word) (q : Reg) : (s.setPc p).reg q = s.reg q := rfl

/-! advance -/

@[simp] theorem State.advance_regs : (s.advance).regs = s.regs := rfl
@[simp] theorem State.advance_pc : (s.advance).pc = s.pc + 1 := rfl
@[simp] theorem State.advance_flags : (s.advance).flags = s.flags := rfl
@[simp] theorem State.advance_run : (s.advance).run = s.run := rfl
@[simp] theorem State.advance_dmem : (s.advance).dmem = s.dmem := rfl
@[simp] theorem State.advance_imem : (s.advance).imem = s.imem := rfl
@[simp] theorem State.advance_stk : (s.advance).stk = s.stk := rfl
@[simp] theorem State.advance_kbd : (s.advance).kbd = s.kbd := rfl
@[simp] theorem State.advance_fb : (s.advance).fb = s.fb := rfl
@[simp] theorem State.advance_cur : (s.advance).cur = s.cur := rfl
@[simp] theorem State.advance_color : (s.advance).color = s.color := rfl
@[simp] theorem State.advance_out : (s.advance).out = s.out := rfl
@[simp] theorem State.advance_audio : (s.advance).audio = s.audio := rfl
@[simp] theorem State.advance_trace : (s.advance).trace = s.trace := rfl
@[simp] theorem State.advance_par : (s.advance).par = s.par := rfl
@[simp] theorem State.advance_draws : (s.advance).draws = s.draws := rfl
@[simp] theorem State.advance_advancing : (s.advance).advancing = s.advancing := rfl
@[simp] theorem State.advance_sched : (s.advance).sched = s.sched := rfl
@[simp] theorem State.advance_reg (q : Reg) : (s.advance).reg q = s.reg q := rfl

/-! setRun -/

@[simp] theorem State.setRun_regs (x : RunState) : (s.setRun x).regs = s.regs := rfl
@[simp] theorem State.setRun_pc (x : RunState) : (s.setRun x).pc = s.pc := rfl
@[simp] theorem State.setRun_flags (x : RunState) : (s.setRun x).flags = s.flags := rfl
@[simp] theorem State.setRun_run (x : RunState) : (s.setRun x).run = x := rfl
@[simp] theorem State.setRun_dmem (x : RunState) : (s.setRun x).dmem = s.dmem := rfl
@[simp] theorem State.setRun_imem (x : RunState) : (s.setRun x).imem = s.imem := rfl
@[simp] theorem State.setRun_stk (x : RunState) : (s.setRun x).stk = s.stk := rfl
@[simp] theorem State.setRun_kbd (x : RunState) : (s.setRun x).kbd = s.kbd := rfl
@[simp] theorem State.setRun_fb (x : RunState) : (s.setRun x).fb = s.fb := rfl
@[simp] theorem State.setRun_cur (x : RunState) : (s.setRun x).cur = s.cur := rfl
@[simp] theorem State.setRun_color (x : RunState) : (s.setRun x).color = s.color := rfl
@[simp] theorem State.setRun_out (x : RunState) : (s.setRun x).out = s.out := rfl
@[simp] theorem State.setRun_audio (x : RunState) : (s.setRun x).audio = s.audio := rfl
@[simp] theorem State.setRun_trace (x : RunState) : (s.setRun x).trace = s.trace := rfl
@[simp] theorem State.setRun_par (x : RunState) : (s.setRun x).par = s.par := rfl
@[simp] theorem State.setRun_draws (x : RunState) : (s.setRun x).draws = s.draws := rfl
@[simp] theorem State.setRun_advancing (x : RunState) : (s.setRun x).advancing = s.advancing := rfl
@[simp] theorem State.setRun_sched (x : RunState) : (s.setRun x).sched = s.sched := rfl
@[simp] theorem State.setRun_reg (x : RunState) (q : Reg) : (s.setRun x).reg q = s.reg q := rfl

/-! setDmem -/

@[simp] theorem State.setDmem_regs (m : Memory) : (s.setDmem m).regs = s.regs := rfl
@[simp] theorem State.setDmem_pc (m : Memory) : (s.setDmem m).pc = s.pc := rfl
@[simp] theorem State.setDmem_flags (m : Memory) : (s.setDmem m).flags = s.flags := rfl
@[simp] theorem State.setDmem_run (m : Memory) : (s.setDmem m).run = s.run := rfl
@[simp] theorem State.setDmem_dmem (m : Memory) : (s.setDmem m).dmem = m := rfl
@[simp] theorem State.setDmem_imem (m : Memory) : (s.setDmem m).imem = s.imem := rfl
@[simp] theorem State.setDmem_stk (m : Memory) : (s.setDmem m).stk = s.stk := rfl
@[simp] theorem State.setDmem_kbd (m : Memory) : (s.setDmem m).kbd = s.kbd := rfl
@[simp] theorem State.setDmem_fb (m : Memory) : (s.setDmem m).fb = s.fb := rfl
@[simp] theorem State.setDmem_cur (m : Memory) : (s.setDmem m).cur = s.cur := rfl
@[simp] theorem State.setDmem_color (m : Memory) : (s.setDmem m).color = s.color := rfl
@[simp] theorem State.setDmem_out (m : Memory) : (s.setDmem m).out = s.out := rfl
@[simp] theorem State.setDmem_audio (m : Memory) : (s.setDmem m).audio = s.audio := rfl
@[simp] theorem State.setDmem_trace (m : Memory) : (s.setDmem m).trace = s.trace := rfl
@[simp] theorem State.setDmem_par (m : Memory) : (s.setDmem m).par = s.par := rfl
@[simp] theorem State.setDmem_draws (m : Memory) : (s.setDmem m).draws = s.draws := rfl
@[simp] theorem State.setDmem_advancing (m : Memory) : (s.setDmem m).advancing = s.advancing := rfl
@[simp] theorem State.setDmem_sched (m : Memory) : (s.setDmem m).sched = s.sched := rfl
@[simp] theorem State.setDmem_reg (m : Memory) (q : Reg) : (s.setDmem m).reg q = s.reg q := rfl

/-! setStk -/

@[simp] theorem State.setStk_regs (l : List Word) : (s.setStk l).regs = s.regs := rfl
@[simp] theorem State.setStk_pc (l : List Word) : (s.setStk l).pc = s.pc := rfl
@[simp] theorem State.setStk_flags (l : List Word) : (s.setStk l).flags = s.flags := rfl
@[simp] theorem State.setStk_run (l : List Word) : (s.setStk l).run = s.run := rfl
@[simp] theorem State.setStk_dmem (l : List Word) : (s.setStk l).dmem = s.dmem := rfl
@[simp] theorem State.setStk_imem (l : List Word) : (s.setStk l).imem = s.imem := rfl
@[simp] theorem State.setStk_stk (l : List Word) : (s.setStk l).stk = l := rfl
@[simp] theorem State.setStk_kbd (l : List Word) : (s.setStk l).kbd = s.kbd := rfl
@[simp] theorem State.setStk_fb (l : List Word) : (s.setStk l).fb = s.fb := rfl
@[simp] theorem State.setStk_cur (l : List Word) : (s.setStk l).cur = s.cur := rfl
@[simp] theorem State.setStk_color (l : List Word) : (s.setStk l).color = s.color := rfl
@[simp] theorem State.setStk_out (l : List Word) : (s.setStk l).out = s.out := rfl
@[simp] theorem State.setStk_audio (l : List Word) : (s.setStk l).audio = s.audio := rfl
@[simp] theorem State.setStk_trace (l : List Word) : (s.setStk l).trace = s.trace := rfl
@[simp] theorem State.setStk_par (l : List Word) : (s.setStk l).par = s.par := rfl
@[simp] theorem State.setStk_draws (l : List Word) : (s.setStk l).draws = s.draws := rfl
@[simp] theorem State.setStk_advancing (l : List Word) : (s.setStk l).advancing = s.advancing := rfl
@[simp] theorem State.setStk_sched (l : List Word) : (s.setStk l).sched = s.sched := rfl
@[simp] theorem State.setStk_reg (l : List Word) (q : Reg) : (s.setStk l).reg q = s.reg q := rfl

/-! setKbd -/

@[simp] theorem State.setKbd_regs (k : Keyboard) : (s.setKbd k).regs = s.regs := rfl
@[simp] theorem State.setKbd_pc (k : Keyboard) : (s.setKbd k).pc = s.pc := rfl
@[simp] theorem State.setKbd_flags (k : Keyboard) : (s.setKbd k).flags = s.flags := rfl
@[simp] theorem State.setKbd_run (k : Keyboard) : (s.setKbd k).run = s.run := rfl
@[simp] theorem State.setKbd_dmem (k : Keyboard) : (s.setKbd k).dmem = s.dmem := rfl
@[simp] theorem State.setKbd_imem (k : Keyboard) : (s.setKbd k).imem = s.imem := rfl
@[simp] theorem State.setKbd_stk (k : Keyboard) : (s.setKbd k).stk = s.stk := rfl
@[simp] theorem State.setKbd_kbd (k : Keyboard) : (s.setKbd k).kbd = k := rfl
@[simp] theorem State.setKbd_fb (k : Keyboard) : (s.setKbd k).fb = s.fb := rfl
@[simp] theorem State.setKbd_cur (k : Keyboard) : (s.setKbd k).cur = s.cur := rfl
@[simp] theorem State.setKbd_color (k : Keyboard) : (s.setKbd k).color = s.color := rfl
@[simp] theorem State.setKbd_out (k : Keyboard) : (s.setKbd k).out = s.out := rfl
@[simp] theorem State.setKbd_audio (k : Keyboard) : (s.setKbd k).audio = s.audio := rfl
@[simp] theorem State.setKbd_trace (k : Keyboard) : (s.setKbd k).trace = s.trace := rfl
@[simp] theorem State.setKbd_par (k : Keyboard) : (s.setKbd k).par = s.par := rfl
@[simp] theorem State.setKbd_draws (k : Keyboard) : (s.setKbd k).draws = s.draws := rfl
@[simp] theorem State.setKbd_advancing (k : Keyboard) : (s.setKbd k).advancing = s.advancing := rfl
@[simp] theorem State.setKbd_sched (k : Keyboard) : (s.setKbd k).sched = s.sched := rfl
@[simp] theorem State.setKbd_reg (k : Keyboard) (q : Reg) : (s.setKbd k).reg q = s.reg q := rfl

/-! setFb -/

@[simp] theorem State.setFb_regs (m : Memory) : (s.setFb m).regs = s.regs := rfl
@[simp] theorem State.setFb_pc (m : Memory) : (s.setFb m).pc = s.pc := rfl
@[simp] theorem State.setFb_flags (m : Memory) : (s.setFb m).flags = s.flags := rfl
@[simp] theorem State.setFb_run (m : Memory) : (s.setFb m).run = s.run := rfl
@[simp] theorem State.setFb_dmem (m : Memory) : (s.setFb m).dmem = s.dmem := rfl
@[simp] theorem State.setFb_imem (m : Memory) : (s.setFb m).imem = s.imem := rfl
@[simp] theorem State.setFb_stk (m : Memory) : (s.setFb m).stk = s.stk := rfl
@[simp] theorem State.setFb_kbd (m : Memory) : (s.setFb m).kbd = s.kbd := rfl
@[simp] theorem State.setFb_fb (m : Memory) : (s.setFb m).fb = m := rfl
@[simp] theorem State.setFb_cur (m : Memory) : (s.setFb m).cur = s.cur := rfl
@[simp] theorem State.setFb_color (m : Memory) : (s.setFb m).color = s.color := rfl
@[simp] theorem State.setFb_out (m : Memory) : (s.setFb m).out = s.out := rfl
@[simp] theorem State.setFb_audio (m : Memory) : (s.setFb m).audio = s.audio := rfl
@[simp] theorem State.setFb_trace (m : Memory) : (s.setFb m).trace = s.trace := rfl
@[simp] theorem State.setFb_par (m : Memory) : (s.setFb m).par = s.par := rfl
@[simp] theorem State.setFb_draws (m : Memory) : (s.setFb m).draws = s.draws := rfl
@[simp] theorem State.setFb_advancing (m : Memory) : (s.setFb m).advancing = s.advancing := rfl
@[simp] theorem State.setFb_sched (m : Memory) : (s.setFb m).sched = s.sched := rfl
@[simp] theorem State.setFb_reg (m : Memory) (q : Reg) : (s.setFb m).reg q = s.reg q := rfl

/-! setCur -/

@[simp] theorem State.setCur_regs (c : Cursor) : (s.setCur c).regs = s.regs := rfl
@[simp] theorem State.setCur_pc (c : Cursor) : (s.setCur c).pc = s.pc := rfl
@[simp] theorem State.setCur_flags (c : Cursor) : (s.setCur c).flags = s.flags := rfl
@[simp] theorem State.setCur_run (c : Cursor) : (s.setCur c).run = s.run := rfl
@[simp] theorem State.setCur_dmem (c : Cursor) : (s.setCur c).dmem = s.dmem := rfl
@[simp] theorem State.setCur_imem (c : Cursor) : (s.setCur c).imem = s.imem := rfl
@[simp] theorem State.setCur_stk (c : Cursor) : (s.setCur c).stk = s.stk := rfl
@[simp] theorem State.setCur_kbd (c : Cursor) : (s.setCur c).kbd = s.kbd := rfl
@[simp] theorem State.setCur_fb (c : Cursor) : (s.setCur c).fb = s.fb := rfl
@[simp] theorem State.setCur_cur (c : Cursor) : (s.setCur c).cur = c := rfl
@[simp] theorem State.setCur_color (c : Cursor) : (s.setCur c).color = s.color := rfl
@[simp] theorem State.setCur_out (c : Cursor) : (s.setCur c).out = s.out := rfl
@[simp] theorem State.setCur_audio (c : Cursor) : (s.setCur c).audio = s.audio := rfl
@[simp] theorem State.setCur_trace (c : Cursor) : (s.setCur c).trace = s.trace := rfl
@[simp] theorem State.setCur_par (c : Cursor) : (s.setCur c).par = s.par := rfl
@[simp] theorem State.setCur_draws (c : Cursor) : (s.setCur c).draws = s.draws := rfl
@[simp] theorem State.setCur_advancing (c : Cursor) : (s.setCur c).advancing = s.advancing := rfl
@[simp] theorem State.setCur_sched (c : Cursor) : (s.setCur c).sched = s.sched := rfl
@[simp] theorem State.setCur_reg (c : Cursor) (q : Reg) : (s.setCur c).reg q = s.reg q := rfl

/-! setColor -/

@[simp] theorem State.setColor_regs (c : Word) : (s.setColor c).regs = s.regs := rfl
@[simp] theorem State.setColor_pc (c : Word) : (s.setColor c).pc = s.pc := rfl
@[simp] theorem State.setColor_flags (c : Word) : (s.setColor c).flags = s.flags := rfl
@[simp] theorem State.setColor_run (c : Word) : (s.setColor c).run = s.run := rfl
@[simp] theorem State.setColor_dmem (c : Word) : (s.setColor c).dmem = s.dmem := rfl
@[simp] theorem State.setColor_imem (c : Word) : (s.setColor c).imem = s.imem := rfl
@[simp] theorem State.setColor_stk (c : Word) : (s.setColor c).stk = s.stk := rfl
@[simp] theorem State.setColor_kbd (c : Word) : (s.setColor c).kbd = s.kbd := rfl
@[simp] theorem State.setColor_fb (c : Word) : (s.setColor c).fb = s.fb := rfl
@[simp] theorem State.setColor_cur (c : Word) : (s.setColor c).cur = s.cur := rfl
@[simp] theorem State.setColor_color (c : Word) : (s.setColor c).color = c := rfl
@[simp] theorem State.setColor_out (c : Word) : (s.setColor c).out = s.out := rfl
@[simp] theorem State.setColor_audio (c : Word) : (s.setColor c).audio = s.audio := rfl
@[simp] theorem State.setColor_trace (c : Word) : (s.setColor c).trace = s.trace := rfl
@[simp] theorem State.setColor_par (c : Word) : (s.setColor c).par = s.par := rfl
@[simp] theorem State.setColor_draws (c : Word) : (s.setColor c).draws = s.draws := rfl
@[simp] theorem State.setColor_advancing (c : Word) : (s.setColor c).advancing = s.advancing := rfl
@[simp] theorem State.setColor_sched (c : Word) : (s.setColor c).sched = s.sched := rfl
@[simp] theorem State.setColor_reg (c : Word) (q : Reg) : (s.setColor c).reg q = s.reg q := rfl

/-! setImem -/

@[simp] theorem State.setImem_regs (p : List InstrWord) : (s.setImem p).regs = s.regs := rfl
@[simp] theorem State.setImem_pc (p : List InstrWord) : (s.setImem p).pc = s.pc := rfl
@[simp] theorem State.setImem_flags (p : List InstrWord) : (s.setImem p).flags = s.flags := rfl
@[simp] theorem State.setImem_run (p : List InstrWord) : (s.setImem p).run = s.run := rfl
@[simp] theorem State.setImem_dmem (p : List InstrWord) : (s.setImem p).dmem = s.dmem := rfl
@[simp] theorem State.setImem_imem (p : List InstrWord) : (s.setImem p).imem = p := rfl
@[simp] theorem State.setImem_stk (p : List InstrWord) : (s.setImem p).stk = s.stk := rfl
@[simp] theorem State.setImem_kbd (p : List InstrWord) : (s.setImem p).kbd = s.kbd := rfl
@[simp] theorem State.setImem_fb (p : List InstrWord) : (s.setImem p).fb = s.fb := rfl
@[simp] theorem State.setImem_cur (p : List InstrWord) : (s.setImem p).cur = s.cur := rfl
@[simp] theorem State.setImem_color (p : List InstrWord) : (s.setImem p).color = s.color := rfl
@[simp] theorem State.setImem_out (p : List InstrWord) : (s.setImem p).out = s.out := rfl
@[simp] theorem State.setImem_audio (p : List InstrWord) : (s.setImem p).audio = s.audio := rfl
@[simp] theorem State.setImem_trace (p : List InstrWord) : (s.setImem p).trace = s.trace := rfl
@[simp] theorem State.setImem_par (p : List InstrWord) : (s.setImem p).par = s.par := rfl
@[simp] theorem State.setImem_draws (p : List InstrWord) : (s.setImem p).draws = s.draws := rfl
@[simp] theorem State.setImem_advancing (p : List InstrWord) : (s.setImem p).advancing = s.advancing := rfl
@[simp] theorem State.setImem_sched (p : List InstrWord) : (s.setImem p).sched = s.sched := rfl
@[simp] theorem State.setImem_reg (p : List InstrWord) (q : Reg) : (s.setImem p).reg q = s.reg q := rfl

/-! emit -/

@[simp] theorem State.emit_regs (o : OutRecord) : (s.emit o).regs = s.regs := rfl
@[simp] theorem State.emit_pc (o : OutRecord) : (s.emit o).pc = s.pc := rfl
@[simp] theorem State.emit_flags (o : OutRecord) : (s.emit o).flags = s.flags := rfl
@[simp] theorem State.emit_run (o : OutRecord) : (s.emit o).run = s.run := rfl
@[simp] theorem State.emit_dmem (o : OutRecord) : (s.emit o).dmem = s.dmem := rfl
@[simp] theorem State.emit_imem (o : OutRecord) : (s.emit o).imem = s.imem := rfl
@[simp] theorem State.emit_stk (o : OutRecord) : (s.emit o).stk = s.stk := rfl
@[simp] theorem State.emit_kbd (o : OutRecord) : (s.emit o).kbd = s.kbd := rfl
@[simp] theorem State.emit_fb (o : OutRecord) : (s.emit o).fb = s.fb := rfl
@[simp] theorem State.emit_cur (o : OutRecord) : (s.emit o).cur = s.cur := rfl
@[simp] theorem State.emit_color (o : OutRecord) : (s.emit o).color = s.color := rfl
@[simp] theorem State.emit_out (o : OutRecord) : (s.emit o).out = s.out ++ [o] := rfl
@[simp] theorem State.emit_audio (o : OutRecord) : (s.emit o).audio = s.audio := rfl
@[simp] theorem State.emit_trace (o : OutRecord) : (s.emit o).trace = s.trace := rfl
@[simp] theorem State.emit_par (o : OutRecord) : (s.emit o).par = s.par := rfl
@[simp] theorem State.emit_draws (o : OutRecord) : (s.emit o).draws = s.draws := rfl
@[simp] theorem State.emit_advancing (o : OutRecord) : (s.emit o).advancing = s.advancing := rfl
@[simp] theorem State.emit_sched (o : OutRecord) : (s.emit o).sched = s.sched := rfl
@[simp] theorem State.emit_reg (o : OutRecord) (q : Reg) : (s.emit o).reg q = s.reg q := rfl

/-! emitAudio -/

@[simp] theorem State.emitAudio_regs (o : AudioRecord) : (s.emitAudio o).regs = s.regs := rfl
@[simp] theorem State.emitAudio_pc (o : AudioRecord) : (s.emitAudio o).pc = s.pc := rfl
@[simp] theorem State.emitAudio_flags (o : AudioRecord) : (s.emitAudio o).flags = s.flags := rfl
@[simp] theorem State.emitAudio_run (o : AudioRecord) : (s.emitAudio o).run = s.run := rfl
@[simp] theorem State.emitAudio_dmem (o : AudioRecord) : (s.emitAudio o).dmem = s.dmem := rfl
@[simp] theorem State.emitAudio_imem (o : AudioRecord) : (s.emitAudio o).imem = s.imem := rfl
@[simp] theorem State.emitAudio_stk (o : AudioRecord) : (s.emitAudio o).stk = s.stk := rfl
@[simp] theorem State.emitAudio_kbd (o : AudioRecord) : (s.emitAudio o).kbd = s.kbd := rfl
@[simp] theorem State.emitAudio_fb (o : AudioRecord) : (s.emitAudio o).fb = s.fb := rfl
@[simp] theorem State.emitAudio_cur (o : AudioRecord) : (s.emitAudio o).cur = s.cur := rfl
@[simp] theorem State.emitAudio_color (o : AudioRecord) : (s.emitAudio o).color = s.color := rfl
@[simp] theorem State.emitAudio_out (o : AudioRecord) : (s.emitAudio o).out = s.out := rfl
@[simp] theorem State.emitAudio_audio (o : AudioRecord) : (s.emitAudio o).audio = s.audio ++ [o] := rfl
@[simp] theorem State.emitAudio_trace (o : AudioRecord) : (s.emitAudio o).trace = s.trace := rfl
@[simp] theorem State.emitAudio_par (o : AudioRecord) : (s.emitAudio o).par = s.par := rfl
@[simp] theorem State.emitAudio_draws (o : AudioRecord) : (s.emitAudio o).draws = s.draws := rfl
@[simp] theorem State.emitAudio_advancing (o : AudioRecord) : (s.emitAudio o).advancing = s.advancing := rfl
@[simp] theorem State.emitAudio_sched (o : AudioRecord) : (s.emitAudio o).sched = s.sched := rfl
@[simp] theorem State.emitAudio_reg (o : AudioRecord) (q : Reg) : (s.emitAudio o).reg q = s.reg q := rfl

/-! emitTrace -/

@[simp] theorem State.emitTrace_regs (o : TraceRecord) : (s.emitTrace o).regs = s.regs := rfl
@[simp] theorem State.emitTrace_pc (o : TraceRecord) : (s.emitTrace o).pc = s.pc := rfl
@[simp] theorem State.emitTrace_flags (o : TraceRecord) : (s.emitTrace o).flags = s.flags := rfl
@[simp] theorem State.emitTrace_run (o : TraceRecord) : (s.emitTrace o).run = s.run := rfl
@[simp] theorem State.emitTrace_dmem (o : TraceRecord) : (s.emitTrace o).dmem = s.dmem := rfl
@[simp] theorem State.emitTrace_imem (o : TraceRecord) : (s.emitTrace o).imem = s.imem := rfl
@[simp] theorem State.emitTrace_stk (o : TraceRecord) : (s.emitTrace o).stk = s.stk := rfl
@[simp] theorem State.emitTrace_kbd (o : TraceRecord) : (s.emitTrace o).kbd = s.kbd := rfl
@[simp] theorem State.emitTrace_fb (o : TraceRecord) : (s.emitTrace o).fb = s.fb := rfl
@[simp] theorem State.emitTrace_cur (o : TraceRecord) : (s.emitTrace o).cur = s.cur := rfl
@[simp] theorem State.emitTrace_color (o : TraceRecord) : (s.emitTrace o).color = s.color := rfl
@[simp] theorem State.emitTrace_out (o : TraceRecord) : (s.emitTrace o).out = s.out := rfl
@[simp] theorem State.emitTrace_audio (o : TraceRecord) : (s.emitTrace o).audio = s.audio := rfl
@[simp] theorem State.emitTrace_trace (o : TraceRecord) : (s.emitTrace o).trace = s.trace ++ [o] := rfl
@[simp] theorem State.emitTrace_par (o : TraceRecord) : (s.emitTrace o).par = s.par := rfl
@[simp] theorem State.emitTrace_draws (o : TraceRecord) : (s.emitTrace o).draws = s.draws := rfl
@[simp] theorem State.emitTrace_advancing (o : TraceRecord) : (s.emitTrace o).advancing = s.advancing := rfl
@[simp] theorem State.emitTrace_sched (o : TraceRecord) : (s.emitTrace o).sched = s.sched := rfl
@[simp] theorem State.emitTrace_reg (o : TraceRecord) (q : Reg) : (s.emitTrace o).reg q = s.reg q := rfl

/-! raise -/

@[simp] theorem State.raise_regs (d : Diag) : (s.raise d).regs = s.regs := rfl
@[simp] theorem State.raise_pc (d : Diag) : (s.raise d).pc = s.pc := rfl
@[simp] theorem State.raise_flags (d : Diag) : (s.raise d).flags = s.flags := rfl
@[simp] theorem State.raise_run (d : Diag) : (s.raise d).run = s.run := rfl
@[simp] theorem State.raise_dmem (d : Diag) : (s.raise d).dmem = s.dmem := rfl
@[simp] theorem State.raise_imem (d : Diag) : (s.raise d).imem = s.imem := rfl
@[simp] theorem State.raise_stk (d : Diag) : (s.raise d).stk = s.stk := rfl
@[simp] theorem State.raise_kbd (d : Diag) : (s.raise d).kbd = s.kbd := rfl
@[simp] theorem State.raise_fb (d : Diag) : (s.raise d).fb = s.fb := rfl
@[simp] theorem State.raise_cur (d : Diag) : (s.raise d).cur = s.cur := rfl
@[simp] theorem State.raise_color (d : Diag) : (s.raise d).color = s.color := rfl
@[simp] theorem State.raise_out (d : Diag) : (s.raise d).out = s.out ++ [.diag d] := rfl
@[simp] theorem State.raise_audio (d : Diag) : (s.raise d).audio = s.audio := rfl
@[simp] theorem State.raise_trace (d : Diag) : (s.raise d).trace = s.trace := rfl
@[simp] theorem State.raise_par (d : Diag) : (s.raise d).par = s.par := rfl
@[simp] theorem State.raise_draws (d : Diag) : (s.raise d).draws = s.draws := rfl
@[simp] theorem State.raise_advancing (d : Diag) : (s.raise d).advancing = s.advancing := rfl
@[simp] theorem State.raise_sched (d : Diag) : (s.raise d).sched = s.sched := rfl
@[simp] theorem State.raise_reg (d : Diag) (q : Reg) : (s.raise d).reg q = s.reg q := rfl

/-! drawn -/

@[simp] theorem State.drawn_regs : (s.drawn).regs = s.regs := rfl
@[simp] theorem State.drawn_pc : (s.drawn).pc = s.pc := rfl
@[simp] theorem State.drawn_flags : (s.drawn).flags = s.flags := rfl
@[simp] theorem State.drawn_run : (s.drawn).run = s.run := rfl
@[simp] theorem State.drawn_dmem : (s.drawn).dmem = s.dmem := rfl
@[simp] theorem State.drawn_imem : (s.drawn).imem = s.imem := rfl
@[simp] theorem State.drawn_stk : (s.drawn).stk = s.stk := rfl
@[simp] theorem State.drawn_kbd : (s.drawn).kbd = s.kbd := rfl
@[simp] theorem State.drawn_fb : (s.drawn).fb = s.fb := rfl
@[simp] theorem State.drawn_cur : (s.drawn).cur = s.cur := rfl
@[simp] theorem State.drawn_color : (s.drawn).color = s.color := rfl
@[simp] theorem State.drawn_out : (s.drawn).out = s.out := rfl
@[simp] theorem State.drawn_audio : (s.drawn).audio = s.audio := rfl
@[simp] theorem State.drawn_trace : (s.drawn).trace = s.trace := rfl
@[simp] theorem State.drawn_par : (s.drawn).par = s.par := rfl
@[simp] theorem State.drawn_draws : (s.drawn).draws = s.draws + 1 := rfl
@[simp] theorem State.drawn_advancing : (s.drawn).advancing = s.advancing := rfl
@[simp] theorem State.drawn_sched : (s.drawn).sched = s.sched := rfl
@[simp] theorem State.drawn_reg (q : Reg) : (s.drawn).reg q = s.reg q := rfl

/-! setAdvancing -/

@[simp] theorem State.setAdvancing_regs (b : Bool) : (s.setAdvancing b).regs = s.regs := rfl
@[simp] theorem State.setAdvancing_pc (b : Bool) : (s.setAdvancing b).pc = s.pc := rfl
@[simp] theorem State.setAdvancing_flags (b : Bool) : (s.setAdvancing b).flags = s.flags := rfl
@[simp] theorem State.setAdvancing_run (b : Bool) : (s.setAdvancing b).run = s.run := rfl
@[simp] theorem State.setAdvancing_dmem (b : Bool) : (s.setAdvancing b).dmem = s.dmem := rfl
@[simp] theorem State.setAdvancing_imem (b : Bool) : (s.setAdvancing b).imem = s.imem := rfl
@[simp] theorem State.setAdvancing_stk (b : Bool) : (s.setAdvancing b).stk = s.stk := rfl
@[simp] theorem State.setAdvancing_kbd (b : Bool) : (s.setAdvancing b).kbd = s.kbd := rfl
@[simp] theorem State.setAdvancing_fb (b : Bool) : (s.setAdvancing b).fb = s.fb := rfl
@[simp] theorem State.setAdvancing_cur (b : Bool) : (s.setAdvancing b).cur = s.cur := rfl
@[simp] theorem State.setAdvancing_color (b : Bool) : (s.setAdvancing b).color = s.color := rfl
@[simp] theorem State.setAdvancing_out (b : Bool) : (s.setAdvancing b).out = s.out := rfl
@[simp] theorem State.setAdvancing_audio (b : Bool) : (s.setAdvancing b).audio = s.audio := rfl
@[simp] theorem State.setAdvancing_trace (b : Bool) : (s.setAdvancing b).trace = s.trace := rfl
@[simp] theorem State.setAdvancing_par (b : Bool) : (s.setAdvancing b).par = s.par := rfl
@[simp] theorem State.setAdvancing_draws (b : Bool) : (s.setAdvancing b).draws = s.draws := rfl
@[simp] theorem State.setAdvancing_advancing (b : Bool) : (s.setAdvancing b).advancing = b := rfl
@[simp] theorem State.setAdvancing_sched (b : Bool) : (s.setAdvancing b).sched = s.sched := rfl
@[simp] theorem State.setAdvancing_reg (b : Bool) (q : Reg) : (s.setAdvancing b).reg q = s.reg q := rfl

/-! setSched -/

@[simp] theorem State.setSched_regs (q : List Turn) : (s.setSched q).regs = s.regs := rfl
@[simp] theorem State.setSched_pc (q : List Turn) : (s.setSched q).pc = s.pc := rfl
@[simp] theorem State.setSched_flags (q : List Turn) : (s.setSched q).flags = s.flags := rfl
@[simp] theorem State.setSched_run (q : List Turn) : (s.setSched q).run = s.run := rfl
@[simp] theorem State.setSched_dmem (q : List Turn) : (s.setSched q).dmem = s.dmem := rfl
@[simp] theorem State.setSched_imem (q : List Turn) : (s.setSched q).imem = s.imem := rfl
@[simp] theorem State.setSched_stk (q : List Turn) : (s.setSched q).stk = s.stk := rfl
@[simp] theorem State.setSched_kbd (q : List Turn) : (s.setSched q).kbd = s.kbd := rfl
@[simp] theorem State.setSched_fb (q : List Turn) : (s.setSched q).fb = s.fb := rfl
@[simp] theorem State.setSched_cur (q : List Turn) : (s.setSched q).cur = s.cur := rfl
@[simp] theorem State.setSched_color (q : List Turn) : (s.setSched q).color = s.color := rfl
@[simp] theorem State.setSched_out (q : List Turn) : (s.setSched q).out = s.out := rfl
@[simp] theorem State.setSched_audio (q : List Turn) : (s.setSched q).audio = s.audio := rfl
@[simp] theorem State.setSched_trace (q : List Turn) : (s.setSched q).trace = s.trace := rfl
@[simp] theorem State.setSched_par (q : List Turn) : (s.setSched q).par = s.par := rfl
@[simp] theorem State.setSched_draws (q : List Turn) : (s.setSched q).draws = s.draws := rfl
@[simp] theorem State.setSched_advancing (q : List Turn) : (s.setSched q).advancing = s.advancing := rfl
@[simp] theorem State.setSched_sched (q : List Turn) : (s.setSched q).sched = q := rfl
@[simp] theorem State.setSched_reg (l : List Turn) (q : Reg) : (s.setSched l).reg q = s.reg q := rfl

/-! Flags -/

variable (f : Flags)

@[simp] theorem Flags.setZN_z (x : Word) : (f.setZN x).z = (x == 0) := rfl
@[simp] theorem Flags.setZN_c (x : Word) : (f.setZN x).c = f.c := rfl
@[simp] theorem Flags.setZN_n (x : Word) : (f.setZN x).n = x.getLsbD 31 := rfl
@[simp] theorem Flags.setZN_v (x : Word) : (f.setZN x).v = f.v := rfl
@[simp] theorem Flags.setZN_i (x : Word) : (f.setZN x).i = f.i := rfl

@[simp] theorem Flags.setC_z (b : Bool) : (f.setC b).z = f.z := rfl
@[simp] theorem Flags.setC_c (b : Bool) : (f.setC b).c = b := rfl
@[simp] theorem Flags.setC_n (b : Bool) : (f.setC b).n = f.n := rfl
@[simp] theorem Flags.setC_v (b : Bool) : (f.setC b).v = f.v := rfl
@[simp] theorem Flags.setC_i (b : Bool) : (f.setC b).i = f.i := rfl

@[simp] theorem Flags.setV_z (b : Bool) : (f.setV b).z = f.z := rfl
@[simp] theorem Flags.setV_c (b : Bool) : (f.setV b).c = f.c := rfl
@[simp] theorem Flags.setV_n (b : Bool) : (f.setV b).n = f.n := rfl
@[simp] theorem Flags.setV_v (b : Bool) : (f.setV b).v = b := rfl
@[simp] theorem Flags.setV_i (b : Bool) : (f.setV b).i = f.i := rfl

@[simp] theorem Flags.setI_z (b : Bool) : (f.setI b).z = f.z := rfl
@[simp] theorem Flags.setI_c (b : Bool) : (f.setI b).c = f.c := rfl
@[simp] theorem Flags.setI_n (b : Bool) : (f.setI b).n = f.n := rfl
@[simp] theorem Flags.setI_v (b : Bool) : (f.setI b).v = f.v := rfl
@[simp] theorem Flags.setI_i (b : Bool) : (f.setI b).i = b := rfl

@[simp] theorem Flags.unpack_z (x : Word) : (f.unpack x).z = x.getLsbD 0 := rfl
@[simp] theorem Flags.unpack_c (x : Word) : (f.unpack x).c = x.getLsbD 1 := rfl
@[simp] theorem Flags.unpack_n (x : Word) : (f.unpack x).n = x.getLsbD 2 := rfl
@[simp] theorem Flags.unpack_v (x : Word) : (f.unpack x).v = x.getLsbD 3 := rfl
@[simp] theorem Flags.unpack_i (x : Word) : (f.unpack x).i = f.i := rfl

/-! Registers -/

/-- A register read after a write (R10). -/
theorem Regs.read_write (x : Regs) (r q : Reg) (v : Word) :
    (x.write r v).read q = if q = r then v else x.read q := by
  cases r <;> cases q <;> rfl

@[simp] theorem Regs.read_write_same (x : Regs) (r : Reg) (v : Word) : (x.write r v).read r = v := by
  cases r <;> rfl

theorem Regs.read_write_other (x : Regs) {r q : Reg} (v : Word) (h : q ≠ r) : (x.write r v).read q = x.read q := by
  simp [Regs.read_write, h]

/-- Two register files that read the same are the same. -/
theorem Regs.ext_read {x y : Regs} (h : ∀ r, x.read r = y.read r) : x = y := by
  obtain ⟨x0, x1, x2, x3, x4, x5, x6, x7, x8, x9⟩ := x
  obtain ⟨y0, y1, y2, y3, y4, y5, y6, y7, y8, y9⟩ := y
  have h0 := h .r0
  have h1 := h .r1
  have h2 := h .r2
  have h3 := h .r3
  have h4 := h .r4
  have h5 := h .r5
  have h6 := h .r6
  have h7 := h .r7
  have h8 := h .sp
  have h9 := h .lr
  simp only [Regs.read] at h0 h1 h2 h3 h4 h5 h6 h7 h8 h9
  simp [h0, h1, h2, h3, h4, h5, h6, h7, h8, h9]

theorem State.setReg_reg (r q : Reg) (v : Word) : (s.setReg r v).reg q = if q = r then v else s.reg q :=
  Regs.read_write s.regs r q v

@[simp] theorem State.setReg_reg_same (r : Reg) (v : Word) : (s.setReg r v).reg r = v :=
  Regs.read_write_same s.regs r v

theorem State.setReg_reg_other {r q : Reg} (v : Word) (h : q ≠ r) : (s.setReg r v).reg q = s.reg q :=
  Regs.read_write_other s.regs v h

/-- Reset registers: SP is 255, every other register 0 (R1301). -/
@[simp] theorem Regs.reset_read (r : Reg) : Regs.reset.read r = if r = .sp then 255 else 0 := by
  cases r <;> rfl

end Sys2Proof.Machine
end

