-- ==== Sys2Proof/Laws/Memory.lean ====
section
/-! SUPPORT. The laws of the canonical memory: reading after writing, and that every memory operation keeps the canonical form
and the range of addresses. -/

namespace Sys2Proof.Machine

@[simp] theorem Memory.read_nil (a : Nat) : Memory.read [] a = 0 := rfl

theorem Memory.read_cons (b a : Nat) (v : Word) (m : Memory) :
    Memory.read ((b, v) :: m) a = if a = b then v else Memory.read m a := rfl

theorem Memory.wf_cons (a : Nat) (v : Word) (m : Memory) :
    Memory.wf ((a, v) :: m) = true ↔ v ≠ 0 ∧ (∀ c ∈ m, a < c.1) ∧ Memory.wf m = true := by
  simp [Memory.wf, and_assoc]

/-- An address below every listed one reads as 0. -/
theorem Memory.read_eq_zero_of_lt {m : Memory} {a : Nat} (h : ∀ c ∈ m, a < c.1) : m.read a = 0 := by
  induction m with
  | nil => rfl
  | cons c m ih =>
    obtain ⟨b, v⟩ := c
    have hb : a < b := h (b, v) (by simp)
    rw [Memory.read_cons, if_neg (by omega)]
    exact ih fun c hc => h c (by simp [hc])

/-- What a cell of a written memory can be: the new one or an old one. -/
theorem Memory.mem_write {m : Memory} {a : Nat} {v : Word} {c : Nat × Word} (h : c ∈ m.write a v) :
    c = (a, v) ∨ c ∈ m := by
  induction m with
  | nil =>
    simp only [Memory.write] at h
    split at h
    · simp at h
    · exact .inl (by simpa using h)
  | cons d m ih =>
    obtain ⟨b, u⟩ := d
    simp only [Memory.write] at h
    split at h
    · split at h
      · exact .inr h
      · simpa using h
    · split at h
      · split at h
        · exact .inr (by simp [h])
        · rcases List.mem_cons.1 h with h | h
          · exact .inl h
          · exact .inr (by simp [h])
      · rcases List.mem_cons.1 h with h | h
        · exact .inr (by simp [h])
        · rcases ih h with h | h
          · exact .inl h
          · exact .inr (by simp [h])

/-- A write keeps the canonical form. -/
theorem Memory.write_wf {m : Memory} (a : Nat) (v : Word) (h : m.wf = true) : (m.write a v).wf = true := by
  induction m with
  | nil =>
    simp only [Memory.write]
    split <;> simp_all [Memory.wf]
  | cons d m ih =>
    obtain ⟨b, u⟩ := d
    obtain ⟨hu, hb, hm⟩ := (Memory.wf_cons b u m).1 h
    simp only [Memory.write]
    split
    · rename_i hab
      split
      · exact h
      · rename_i hv
        refine (Memory.wf_cons _ _ _).2 ⟨hv, ?_, h⟩
        intro c hc
        rcases List.mem_cons.1 hc with rfl | hc
        · exact hab
        · exact lt_trans hab (hb c hc)
    · split
      · rename_i hab
        split
        · exact hm
        · rename_i hv
          exact (Memory.wf_cons _ _ _).2 ⟨hv, fun c hc => hab ▸ hb c hc, hm⟩
      · rename_i h1 h2
        refine (Memory.wf_cons _ _ _).2 ⟨hu, ?_, ih hm⟩
        intro c hc
        rcases Memory.mem_write hc with rfl | hc
        · show b < a
          omega
        · exact hb c hc

/-- Reading after a write to a canonical memory. -/
theorem Memory.read_write {m : Memory} (a b : Nat) (v : Word) (h : m.wf = true) :
    (m.write a v).read b = if b = a then v else m.read b := by
  induction m with
  | nil =>
    simp only [Memory.write]
    split <;> simp_all [Memory.read]
  | cons d m ih =>
    obtain ⟨c, u⟩ := d
    obtain ⟨_, hc, hm⟩ := (Memory.wf_cons c u m).1 h
    simp only [Memory.write]
    split
    · rename_i hac
      split
      · rename_i hv
        split
        · rename_i hba
          subst hba hv
          exact Memory.read_eq_zero_of_lt fun e he => by
            rcases List.mem_cons.1 he with rfl | he
            · exact hac
            · exact lt_trans hac (hc e he)
        · rfl
      · rw [Memory.read_cons]
    · split
      · rename_i h1 hac
        subst hac
        split
        · rename_i hv
          split
          · rename_i hba
            subst hba hv
            exact Memory.read_eq_zero_of_lt hc
          · rename_i hba
            rw [Memory.read_cons, if_neg hba]
        · rw [Memory.read_cons, Memory.read_cons]
          split <;> rfl
      · rename_i h1 h2
        rw [Memory.read_cons, ih hm, Memory.read_cons]
        split
        · rename_i hbc
          rw [if_neg (by omega)]
        · rfl

theorem Memory.below_iff (m : Memory) (n : Nat) : m.below n = true ↔ ∀ c ∈ m, c.1 < n := by
  simp [Memory.below]

/-- A write to an address in range keeps the range. -/
theorem Memory.write_below {m : Memory} {a n : Nat} (v : Word) (h : m.below n = true) (ha : a < n) :
    (m.write a v).below n = true := by
  rw [Memory.below_iff] at *
  intro c hc
  rcases Memory.mem_write hc with rfl | hc
  · exact ha
  · exact h c hc

/-- MemWrite keeps DMEM canonical. -/
theorem memWrite_wf (a v : Word) {s : State} (h : s.dmem.wf = true) : (memWrite a v s).dmem.wf = true := by
  unfold memWrite reportRange
  split
  · exact Memory.write_wf _ _ h
  · split <;> exact h

/-- MemWrite keeps DMEM's addresses in range. -/
theorem memWrite_below (a v : Word) {s : State} (h : s.dmem.below 256 = true) :
    (memWrite a v s).dmem.below 256 = true := by
  unfold memWrite reportRange
  split
  · rename_i hr
    exact Memory.write_below _ h (by simpa [inRange] using hr)
  · split <;> exact h

/-- A plot keeps the framebuffer canonical. -/
theorem plot_wf {fb : Memory} (p : Point) (c : Word) (h : fb.wf = true) : (plot fb p c).wf = true := by
  unfold plot
  split
  · exact Memory.write_wf _ _ h
  · exact h

/-- The cell of an on-screen point is one of the 8192. -/
theorem pixelCell_lt {p : Point} (h : onScreen p = true) : pixelCell p < 8192 := by
  simp only [onScreen, Bool.and_eq_true, decide_eq_true_eq] at h
  unfold pixelCell
  omega

/-- Two on-screen points with one cell are the same point. -/
theorem pixelCell_inj {p q : Point} (hp : onScreen p = true) (hq : onScreen q = true)
    (h : pixelCell p = pixelCell q) : p = q := by
  simp only [onScreen, Bool.and_eq_true, decide_eq_true_eq] at hp hq
  unfold pixelCell at h
  ext <;> omega

/-- A plot keeps the framebuffer's cells in range. -/
theorem plot_below {fb : Memory} (p : Point) (c : Word) (h : fb.below 8192 = true) :
    (plot fb p c).below 8192 = true := by
  unfold plot
  split
  · rename_i hp
    exact Memory.write_below _ h (pixelCell_lt hp)
  · exact h

/-- A pixel after a plot (R1112). -/
theorem pixel_plot {fb : Memory} (p q : Point) (c : Word) (h : fb.wf = true) :
    pixel (plot fb p c) q = if q = p ∧ onScreen p then c else pixel fb q := by
  unfold pixel plot
  by_cases hp : onScreen p = true
  · by_cases hq : onScreen q = true
    · simp only [hp, hq, if_true, and_true]
      rw [Memory.read_write _ _ _ h]
      by_cases hqp : q = p
      · simp [hqp]
      · rw [if_neg fun hc => hqp (pixelCell_inj hq hp hc), if_neg hqp]
    · have : q ≠ p := fun e => hq (e ▸ hp)
      simp [hp, hq, this]
  · simp [hp]

/-- Points plotted keep the framebuffer canonical. -/
theorem plotAll_wf (ps : List Point) (c : Word) {fb : Memory} (h : fb.wf = true) : (plotAll ps c fb).wf = true := by
  induction ps with
  | nil => exact h
  | cons p ps ih => exact plot_wf p c ih

/-- Points plotted keep the framebuffer's cells in range. -/
theorem plotAll_below (ps : List Point) (c : Word) {fb : Memory} (h : fb.below 8192 = true) :
    (plotAll ps c fb).below 8192 = true := by
  induction ps with
  | nil => exact h
  | cons p ps ih => exact plot_below p c ih

/-- A pixel after points were plotted in one colour. -/
theorem pixel_plotAll (ps : List Point) (q : Point) (c : Word) {fb : Memory} (h : fb.wf = true) :
    pixel (plotAll ps c fb) q = if q ∈ ps ∧ onScreen q then c else pixel fb q := by
  induction ps with
  | nil => simp [plotAll]
  | cons p ps ih =>
    show pixel (plot (plotAll ps c fb) p c) q = _
    rw [pixel_plot _ _ _ (plotAll_wf ps c h), ih]
    by_cases hqp : q = p
    · subst hqp
      by_cases hq : onScreen q = true <;> simp [hq]
    · simp [hqp]

/-- ScreenPutChar's plots keep the framebuffer canonical. -/
theorem putCharFb_wf (cur : Cursor) (color ch : Word) {fb : Memory} (h : fb.wf = true) :
    (putCharFb fb cur color ch).wf = true := by
  unfold putCharFb
  generalize Config.putCharPlots fb (cur.cx, cur.cy) color ch = ps
  induction ps generalizing fb with
  | nil => exact h
  | cons p ps ih => exact ih (plot_wf p.1 _ h)

/-- ScreenPutChar's plots keep the framebuffer's cells in range. -/
theorem putCharFb_below (cur : Cursor) (color ch : Word) {fb : Memory} (h : fb.below 8192 = true) :
    (putCharFb fb cur color ch).below 8192 = true := by
  unfold putCharFb
  generalize Config.putCharPlots fb (cur.cx, cur.cy) color ch = ps
  induction ps generalizing fb with
  | nil => exact h
  | cons p ps ih => exact ih (plot_below p.1 _ h)

/-- The memories of State.reset are canonical and in range. -/
theorem reset_memories :
    State.reset.dmem.wf = true ∧ State.reset.dmem.below 256 = true ∧ State.reset.fb.wf = true ∧
      State.reset.fb.below 8192 = true := by
  decide

end Sys2Proof.Machine
end

