-- ==== Sys2Proof/Laws/Ops.lean ====
section
/-! SUPPORT. What each shared operation can do, said once: the sequencing of outcomes, the stack, the interrupt's entry and
return, the engine's step. Later proofs cite these and do not unfold the operations. -/

namespace Sys2Proof.Machine

@[simp] theorem andThen_next (s : State) (k : State → Result) : andThen (.next s) k = k s := rfl

@[simp] theorem andThen_fault (r : Fault) (k : State → Result) : andThen (.fault r) k = .fault r := rfl

@[simp] theorem andThen_refused (r : Refusal) (k : State → Result) : andThen (.refused r) k = .refused r := rfl

/-- A sequence answers a next state exactly where both parts do. -/
theorem andThen_eq_next {o : Result} {k : State → Result} {t : State} :
    andThen o k = .next t ↔ ∃ u, o = .next u ∧ k u = .next t := by
  cases o <;> simp [andThen]

/-- A sequence faults where one of its parts does. -/
theorem andThen_eq_fault {o : Result} {k : State → Result} {r : Fault} :
    andThen o k = .fault r ↔ o = .fault r ∨ ∃ u, o = .next u ∧ k u = .fault r := by
  cases o <;> simp [andThen]

/-- A sequence is refused where one of its parts is. -/
theorem andThen_eq_refused {o : Result} {k : State → Result} {r : Refusal} :
    andThen o k = .refused r ↔ o = .refused r ∨ ∃ u, o = .next u ∧ k u = .refused r := by
  cases o <;> simp [andThen]

/-! The stack. -/

theorem stackFull_eq_false (s : State) : s.stackFull = false ↔ s.par.stackCapacity ≠ some s.stk.length := by
  simp [State.stackFull]

theorem stackFull_eq_true (s : State) : s.stackFull = true ↔ s.par.stackCapacity = some s.stk.length := by
  simp [State.stackFull]

/-- A push onto a stack of unbounded capacity is never refused. -/
theorem stackFull_of_unbounded {s : State} (h : s.par.stackCapacity = none) : s.stackFull = false := by
  simp [State.stackFull, h]

/-- All that a push can do (R124). -/
theorem push_eq_next {v : Word} {s t : State} : push v s = .next t ↔ s.stackFull = false ∧ t = s.pushed v := by
  unfold push
  cases s.stackFull <;> simp [eq_comm]

theorem push_eq_refused {v : Word} {s : State} {r : Refusal} :
    push v s = .refused r ↔ s.stackFull = true ∧ r = .stackFull := by
  unfold push
  cases s.stackFull <;> simp [eq_comm]

theorem push_ne_fault (v : Word) (s : State) (r : Fault) : push v s ≠ .fault r := by
  unfold push
  split <;> simp

/-- The state after a push, as one record (R124). -/
theorem pushed_eq (s : State) (v : Word) :
    s.pushed v = { s with stk := v :: s.stk, regs := s.regs.write .sp (s.reg .sp - 1) } := rfl

/-- A pop on an empty stack (R125). -/
theorem pop_nil {s : State} (h : s.stk = []) : pop s = none := by simp [pop, h]

/-- A pop on a stack that holds a value (R125). -/
theorem pop_cons {s : State} {v : Word} {rest : List Word} (h : s.stk = v :: rest) :
    pop s = some (v, { s with stk := rest, regs := s.regs.write .sp (s.reg .sp + 1) }) := by
  simp [pop, h, State.setStk, State.setReg, State.reg]

/-- All that a pop can do (R125). -/
theorem pop_cases (s : State) :
    (s.stk = [] ∧ pop s = none) ∨
      ∃ v rest, s.stk = v :: rest ∧
        pop s = some (v, { s with stk := rest, regs := s.regs.write .sp (s.reg .sp + 1) }) := by
  cases h : s.stk with
  | nil => exact .inl ⟨rfl, pop_nil h⟩
  | cons v rest => exact .inr ⟨v, rest, rfl, pop_cons h⟩

/-- A push, then a pop: the value, and the state before the push (R124, R125). -/
theorem pop_pushed (s : State) (v : Word) : pop (s.pushed v) = some (v, s) := by
  rw [pop_cons (s := s.pushed v) (v := v) (rest := s.stk) rfl]
  have : (s.pushed v).regs.write .sp ((s.pushed v).reg .sp + 1) = s.regs := by
    apply Regs.ext_read
    intro r
    rw [Regs.read_write]
    split
    · rename_i h
      subst h
      show s.regs.read .sp - 1 + 1 = _
      simp
    · rename_i h
      exact Regs.read_write_other _ _ h
  rw [this]
  rfl

/-- Reading SP back and writing it changes nothing. -/
theorem Regs.write_read (x : Regs) (r : Reg) : x.write r (x.read r) = x := by
  cases r <;> rfl

/-- The later of two writes to one register stands (R11). -/
@[simp] theorem Regs.write_write (x : Regs) (r : Reg) (u v : Word) : (x.write r u).write r v = x.write r v := by
  cases r <;> rfl

/-- The state after values were pushed, where no push is refused: top first, SP one down for each (R124). -/
theorem pushAll_eq_next {vs : List Word} {s t : State} (h : pushAll vs s = .next t) :
    t = { s with stk := vs.reverse ++ s.stk, regs := s.regs.write .sp (s.reg .sp - BitVec.ofNat 32 vs.length) } := by
  induction vs generalizing s with
  | nil =>
    have e : s = t := by simpa [pushAll] using h
    subst e
    have : s.regs.write .sp (s.reg .sp - BitVec.ofNat 32 ([] : List Word).length) = s.regs := by
      simpa [State.reg] using Regs.write_read s.regs .sp
    rw [this]
    rfl
  | cons v vs ih =>
    obtain ⟨u, hu, ht⟩ := andThen_eq_next.1 h
    obtain ⟨_, rfl⟩ := push_eq_next.1 hu
    have hsp : (s.pushed v).reg .sp = s.reg .sp - 1 := Regs.read_write_same s.regs .sp _
    have hn : s.reg .sp - 1 - BitVec.ofNat 32 vs.length = s.reg .sp - BitVec.ofNat 32 (v :: vs).length := by
      rw [BitVec.sub_sub, List.length_cons, BitVec.add_comm, BitVec.ofNat_add]
      rfl
    rw [ih ht, hsp, hn, pushed_eq]
    simp

/-- Pushes are refused only for a full stack. -/
theorem pushAll_cases (vs : List Word) (s : State) :
    (∃ t, pushAll vs s = .next t) ∨ pushAll vs s = .refused .stackFull := by
  induction vs generalizing s with
  | nil => exact .inl ⟨s, rfl⟩
  | cons v vs ih =>
    cases hf : s.stackFull with
    | true =>
      right
      simp [pushAll, push, hf]
    | false =>
      have hp : push v s = .next (s.pushed v) := push_eq_next.2 ⟨hf, rfl⟩
      have : pushAll (v :: vs) s = pushAll vs (s.pushed v) := by simp [pushAll, hp]
      rw [this]
      exact ih _

/-- Pops into registers change registers and the stack only (R906). -/
theorem popEach_frame (rs : List Reg) (s : State) :
    popEach rs s = { s with regs := (popEach rs s).regs, stk := (popEach rs s).stk } := by
  induction rs generalizing s with
  | nil => rfl
  | cons r rs ih =>
    rcases pop_cases s with ⟨_, h⟩ | ⟨v, rest, _, h⟩
    · simp only [popEach, h]
      exact ih s
    · simp only [popEach, h]
      rw [ih]
      rfl

/-! The keyboard interrupt. -/

/-- All that the interrupt's entry can do (R1206). -/
theorem interruptEntry_eq_next {s t : State} (h : interruptEntry s = .next t) :
    s.stackFull = false ∧ (s.pushed s.pc).stackFull = false ∧
      t = { s with
        stk := s.flags.pack :: s.pc :: s.stk
        regs := s.regs.write .sp (s.reg .sp - 2)
        pc := s.kbd.handler
        flags := s.flags.setI true
        advancing := false } := by
  obtain ⟨u, hu, h⟩ := andThen_eq_next.1 h
  obtain ⟨hf, rfl⟩ := push_eq_next.1 hu
  obtain ⟨v, hv, h⟩ := andThen_eq_next.1 h
  obtain ⟨hg, rfl⟩ := push_eq_next.1 hv
  refine ⟨hf, hg, ?_⟩
  have hsp : (s.regs.write .sp (s.reg .sp - 1)).read .sp - 1 = s.reg .sp - 2 := by
    rw [Regs.read_write_same, BitVec.sub_sub]
    rfl
  rw [← hsp, ← Regs.write_write s.regs .sp (s.reg .sp - 1)]
  injection h with h
  rw [← h]
  rfl

/-- The first pop of IRET (R1105). -/
theorem popFlags_cases (s : State) :
    (s.stk = [] ∧ popFlags s = s) ∨
      ∃ f rest, s.stk = f :: rest ∧
        popFlags s =
          { s with stk := rest, regs := s.regs.write .sp (s.reg .sp + 1), flags := s.flags.unpack f } := by
  rcases pop_cases s with ⟨h, hp⟩ | ⟨v, rest, h, hp⟩
  · exact .inl ⟨h, by simp [popFlags, hp]⟩
  · exact .inr ⟨v, rest, h, by simp [popFlags, hp, State.setFlags]⟩

/-- A pop into pc (R904, R1105). -/
theorem popPc_cases (s : State) :
    (s.stk = [] ∧ popPc s = { s with pc := s.pc + 1 }) ∨
      ∃ v rest, s.stk = v :: rest ∧
        popPc s = { s with stk := rest, regs := s.regs.write .sp (s.reg .sp + 1), pc := v } := by
  rcases pop_cases s with ⟨h, hp⟩ | ⟨v, rest, h, hp⟩
  · exact .inl ⟨h, by simp [popPc, hp, State.advance]⟩
  · exact .inr ⟨v, rest, h, by simp [popPc, hp, State.setPc]⟩

/-! The engine. -/

/-- All that an engine step can do when it answers a next state (R401): nothing to fetch, an invalid word, or an
instruction performed; then the completion test and the bus record. -/
theorem engineStep_cases {s t : State} (h : engineStep s = .next t) :
    (fetch s = none ∧ t = s.setRun .halted) ∨
      (∃ w why, fetch s = some w ∧ decode w = .error why ∧
        t = recordBus (complete (s.raise (.unknownInstruction s.pc w)).advance)) ∨
      ∃ w i u, fetch s = some w ∧ decode w = .ok i ∧ exec i s = .next u ∧ t = recordBus (complete u) := by
  unfold engineStep at h
  cases hf : fetch s with
  | none =>
    rw [hf] at h
    injection h with h
    exact .inl ⟨rfl, h.symm⟩
  | some w =>
    rw [hf] at h
    obtain ⟨u, hu, h⟩ := andThen_eq_next.1 h
    injection h with h
    cases hd : decode w with
    | ok i =>
      simp only [perform, hd] at hu
      exact .inr (.inr ⟨w, i, u, rfl, hd, hu, h.symm⟩)
    | error why =>
      simp only [perform, hd] at hu
      injection hu with hu
      exact .inr (.inl ⟨w, why, rfl, hd, by rw [← h, ← hu]⟩)

/-- The completion test changes RUN only (R407). -/
theorem complete_frame (s : State) : complete s = { s with run := (complete s).run } := by
  unfold complete
  split
  · rfl
  · split <;> rfl

/-- The bus record changes the trace port and the count of free values only (R152). -/
theorem recordBus_frame (s : State) :
    recordBus s = { s with trace := (recordBus s).trace, draws := (recordBus s).draws } := by
  unfold recordBus
  split <;> rfl

/-- The bus record where none is traced. -/
theorem recordBus_off {s : State} (h : s.par.traceBus = false) : recordBus s = s := by
  simp [recordBus, h]

/-- The condition of the auto-advance loop (R415). -/
theorem advances_eq_true {s : State} :
    advances s = true ↔ s.run = .stepping ∧ s.imem[s.pc.toNat]? = some blankNopWord := by
  simp [advances, fetch]

/-- What is left of an auto-advance is a mark, and changes nothing else (R415; log entry 4). -/
theorem stillAdvancing_eq (s : State) : stillAdvancing s = { s with advancing := advances s } := rfl

/-- Whose turn a step is (R421). -/
theorem step_engine {s : State} (h : s.sched = []) : step s = engineTurn s := by
  simp [step, turn, h]

theorem step_engine_scheduled {s : State} {q : List Turn} (h : s.sched = .engine :: q) :
    step s = engineTurn (s.setSched q) := by
  simp [step, turn, h]

theorem step_host {s : State} {a : HostAction} {q : List Turn} (h : s.sched = .host a :: q) :
    step s = hostAct a (s.setSched q) := by
  simp [step, turn, h]

end Sys2Proof.Machine
end

