-- ==== Sys2Proof/Laws/PerInstr.lean ====
section
/-! SUPPORT. The family EncodingWellFormed: the fields an instruction is encoded into pass every check of WellFormed.lean
(R302, R304, R306-R308). One lemma per format says it of every opcode of that format; one lemma per constructor of Instr cites
the lemma of its format. -/

namespace Sys2Proof.Laws

/-- The fields of an instruction's word are well-formed. -/
def EncodingWellFormed.Statement (i : Instr) : Prop := (encodeFields i).wf = true

/-- An unused register field that is 0 passes its check. -/
theorem regField_unused : regFieldOk false 0#4 = true := rfl

variable {opc : BitVec 8}


theorem wf_putN (h : formatOf opc = some .N) : (putN opc).wf = true := by
  simp [Fields.wf, putN, h, Format.usesRd, Format.usesRa, Format.usesRb, Format.usesImm, Format.hasOp2,
    Fields.rsvZero, Fields.blankOnlyInNop, Fields.tailOk, regField_unused]

theorem wf_putDI (h : formatOf opc = some .DI) (r : Reg) (v : Word) : (putDI opc r v).wf = true := by
  simp [Fields.wf, putDI, putN, h, Format.usesRd, Format.usesRa, Format.usesRb, Format.usesImm, Format.hasOp2,
    Fields.rsvZero, Fields.blankOnlyInNop, Fields.tailOk, regField_unused]

theorem wf_putSI (h : formatOf opc = some .SI) (r : Reg) (v : Word) : (putSI opc r v).wf = true := by
  simp [Fields.wf, putSI, putN, h, Format.usesRd, Format.usesRa, Format.usesRb, Format.usesImm, Format.hasOp2,
    Fields.rsvZero, Fields.blankOnlyInNop, Fields.tailOk, regField_unused]

theorem wf_putDS (h : formatOf opc = some .DS) (r q : Reg) : (putDS opc r q).wf = true := by
  simp [Fields.wf, putDS, putN, h, Format.usesRd, Format.usesRa, Format.usesRb, Format.usesImm, Format.hasOp2,
    Fields.rsvZero, Fields.blankOnlyInNop, Fields.tailOk, regField_unused]

theorem wf_putSS (h : formatOf opc = some .SS) (r q : Reg) : (putSS opc r q).wf = true := by
  simp [Fields.wf, putSS, putN, h, Format.usesRd, Format.usesRa, Format.usesRb, Format.usesImm, Format.hasOp2,
    Fields.rsvZero, Fields.blankOnlyInNop, Fields.tailOk, regField_unused]

theorem wf_putDSS (h : formatOf opc = some .DSS) (r q p : Reg) : (putDSS opc r q p).wf = true := by
  simp [Fields.wf, putDSS, putN, h, Format.usesRd, Format.usesRa, Format.usesRb, Format.usesImm, Format.hasOp2,
    Fields.rsvZero, Fields.blankOnlyInNop, Fields.tailOk]

theorem wf_putDSI (h : formatOf opc = some .DSI) (r q : Reg) (v : Word) : (putDSI opc r q v).wf = true := by
  simp [Fields.wf, putDSI, putN, h, Format.usesRd, Format.usesRa, Format.usesRb, Format.usesImm, Format.hasOp2,
    Fields.rsvZero, Fields.blankOnlyInNop, Fields.tailOk, regField_unused]

theorem wf_putD (h : formatOf opc = some .D) (r : Reg) : (putD opc r).wf = true := by
  simp [Fields.wf, putD, putN, h, Format.usesRd, Format.usesRa, Format.usesRb, Format.usesImm, Format.hasOp2,
    Fields.rsvZero, Fields.blankOnlyInNop, Fields.tailOk, regField_unused]

theorem wf_putS (h : formatOf opc = some .S) (r : Reg) : (putS opc r).wf = true := by
  simp [Fields.wf, putS, putN, h, Format.usesRd, Format.usesRa, Format.usesRb, Format.usesImm, Format.hasOp2,
    Fields.rsvZero, Fields.blankOnlyInNop, Fields.tailOk, regField_unused]

theorem wf_putI (h : formatOf opc = some .I) (v : Word) : (putI opc v).wf = true := by
  simp [Fields.wf, putI, putN, h, Format.usesRd, Format.usesRa, Format.usesRb, Format.usesImm, Format.hasOp2,
    Fields.rsvZero, Fields.blankOnlyInNop, Fields.tailOk, regField_unused]

theorem wf_putNB (b : Bool) : (putNB 0 b).wf = true := by cases b <;> decide

theorem wf_putDSO (h : formatOf opc = some .DSO) (r q : Reg) (o : Op2) : (putDSO opc r q o).wf = true := by
  cases o <;>
    simp [Fields.wf, putDSO, putOp2, putDS, putN, h, Format.usesRd, Format.usesRa, Format.hasOp2, Fields.rsvZero,
      Fields.blankOnlyInNop, Fields.op2Ok, Reg.code_lt]

theorem wf_putDO (h : formatOf opc = some .DO) (r : Reg) (o : Op2) : (putDO opc r o).wf = true := by
  cases o <;>
    simp [Fields.wf, putDO, putOp2, putD, putN, h, Format.usesRd, Format.usesRa, Format.hasOp2, Fields.rsvZero,
      Fields.blankOnlyInNop, Fields.op2Ok, regField_unused, Reg.code_lt]

theorem wf_putSO (h : formatOf opc = some .SO) (r : Reg) (o : Op2) : (putSO opc r o).wf = true := by
  cases o <;>
    simp [Fields.wf, putSO, putOp2, putS, putN, h, Format.usesRd, Format.usesRa, Format.hasOp2, Fields.rsvZero,
      Fields.blankOnlyInNop, Fields.op2Ok, regField_unused, Reg.code_lt]

theorem EncodingWellFormed.nop (b : Bool) : EncodingWellFormed.Statement (.nop b) := wf_putNB b

theorem EncodingWellFormed.halt : EncodingWellFormed.Statement (.halt) := wf_putN rfl

theorem EncodingWellFormed.reset : EncodingWellFormed.Statement (.reset) := wf_putN rfl

theorem EncodingWellFormed.debug : EncodingWellFormed.Statement (.debug) := wf_putN rfl

theorem EncodingWellFormed.load (r : Reg) (v : Word) : EncodingWellFormed.Statement (.load r v) := wf_putDI rfl r v

theorem EncodingWellFormed.mov (r q : Reg) : EncodingWellFormed.Statement (.mov r q) := wf_putDS rfl r q

theorem EncodingWellFormed.ldr (r : Reg) (v : Word) : EncodingWellFormed.Statement (.ldr r v) := wf_putDI rfl r v

theorem EncodingWellFormed.str (r : Reg) (v : Word) : EncodingWellFormed.Statement (.str r v) := wf_putSI rfl r v

theorem EncodingWellFormed.ldri (r q : Reg) : EncodingWellFormed.Statement (.ldri r q) := wf_putDS rfl r q

theorem EncodingWellFormed.stri (r q : Reg) : EncodingWellFormed.Statement (.stri r q) := wf_putSS rfl r q

theorem EncodingWellFormed.lea (r : Reg) (v : Word) : EncodingWellFormed.Statement (.lea r v) := wf_putDI rfl r v

theorem EncodingWellFormed.swap (r q : Reg) : EncodingWellFormed.Statement (.swap r q) := wf_putDS rfl r q

theorem EncodingWellFormed.add (r q p : Reg) : EncodingWellFormed.Statement (.add r q p) := wf_putDSS rfl r q p

theorem EncodingWellFormed.sub (r q p : Reg) : EncodingWellFormed.Statement (.sub r q p) := wf_putDSS rfl r q p

theorem EncodingWellFormed.mul (r q p : Reg) : EncodingWellFormed.Statement (.mul r q p) := wf_putDSS rfl r q p

theorem EncodingWellFormed.div (r q p : Reg) : EncodingWellFormed.Statement (.div r q p) := wf_putDSS rfl r q p

theorem EncodingWellFormed.mod (r q p : Reg) : EncodingWellFormed.Statement (.mod r q p) := wf_putDSS rfl r q p

theorem EncodingWellFormed.addi (r q : Reg) (v : Word) : EncodingWellFormed.Statement (.addi r q v) := wf_putDSI rfl r q v

theorem EncodingWellFormed.subi (r q : Reg) (v : Word) : EncodingWellFormed.Statement (.subi r q v) := wf_putDSI rfl r q v

theorem EncodingWellFormed.muli (r q : Reg) (v : Word) : EncodingWellFormed.Statement (.muli r q v) := wf_putDSI rfl r q v

theorem EncodingWellFormed.divi (r q : Reg) (v : Word) : EncodingWellFormed.Statement (.divi r q v) := wf_putDSI rfl r q v

theorem EncodingWellFormed.modi (r q : Reg) (v : Word) : EncodingWellFormed.Statement (.modi r q v) := wf_putDSI rfl r q v

theorem EncodingWellFormed.pow (r q p : Reg) : EncodingWellFormed.Statement (.pow r q p) := wf_putDSS rfl r q p

theorem EncodingWellFormed.sqrt (r q : Reg) : EncodingWellFormed.Statement (.sqrt r q) := wf_putDS rfl r q

theorem EncodingWellFormed.abs (r q : Reg) : EncodingWellFormed.Statement (.abs r q) := wf_putDS rfl r q

theorem EncodingWellFormed.neg (r q : Reg) : EncodingWellFormed.Statement (.neg r q) := wf_putDS rfl r q

theorem EncodingWellFormed.inc (r : Reg) : EncodingWellFormed.Statement (.inc r) := wf_putD rfl r

theorem EncodingWellFormed.dec (r : Reg) : EncodingWellFormed.Statement (.dec r) := wf_putD rfl r

theorem EncodingWellFormed.and (r q p : Reg) : EncodingWellFormed.Statement (.and r q p) := wf_putDSS rfl r q p

theorem EncodingWellFormed.or (r q p : Reg) : EncodingWellFormed.Statement (.or r q p) := wf_putDSS rfl r q p

theorem EncodingWellFormed.xor (r q p : Reg) : EncodingWellFormed.Statement (.xor r q p) := wf_putDSS rfl r q p

theorem EncodingWellFormed.not (r q : Reg) : EncodingWellFormed.Statement (.not r q) := wf_putDS rfl r q

theorem EncodingWellFormed.nand (r q p : Reg) : EncodingWellFormed.Statement (.nand r q p) := wf_putDSS rfl r q p

theorem EncodingWellFormed.nor (r q p : Reg) : EncodingWellFormed.Statement (.nor r q p) := wf_putDSS rfl r q p

theorem EncodingWellFormed.shl (r q : Reg) (o : Op2) : EncodingWellFormed.Statement (.shl r q o) := wf_putDSO rfl r q o

theorem EncodingWellFormed.shr (r q : Reg) (o : Op2) : EncodingWellFormed.Statement (.shr r q o) := wf_putDSO rfl r q o

theorem EncodingWellFormed.rol (r q : Reg) (o : Op2) : EncodingWellFormed.Statement (.rol r q o) := wf_putDSO rfl r q o

theorem EncodingWellFormed.ror (r q : Reg) (o : Op2) : EncodingWellFormed.Statement (.ror r q o) := wf_putDSO rfl r q o

theorem EncodingWellFormed.setbit (r : Reg) (o : Op2) : EncodingWellFormed.Statement (.setbit r o) := wf_putDO rfl r o

theorem EncodingWellFormed.clrbit (r : Reg) (o : Op2) : EncodingWellFormed.Statement (.clrbit r o) := wf_putDO rfl r o

theorem EncodingWellFormed.togbit (r : Reg) (o : Op2) : EncodingWellFormed.Statement (.togbit r o) := wf_putDO rfl r o

theorem EncodingWellFormed.testbit (r : Reg) (o : Op2) : EncodingWellFormed.Statement (.testbit r o) := wf_putSO rfl r o

theorem EncodingWellFormed.popcnt (r q : Reg) : EncodingWellFormed.Statement (.popcnt r q) := wf_putDS rfl r q

theorem EncodingWellFormed.clz (r q : Reg) : EncodingWellFormed.Statement (.clz r q) := wf_putDS rfl r q

theorem EncodingWellFormed.cmp (r q : Reg) : EncodingWellFormed.Statement (.cmp r q) := wf_putSS rfl r q

theorem EncodingWellFormed.cmpi (r : Reg) (v : Word) : EncodingWellFormed.Statement (.cmpi r v) := wf_putSI rfl r v

theorem EncodingWellFormed.test (r q : Reg) : EncodingWellFormed.Statement (.test r q) := wf_putSS rfl r q

theorem EncodingWellFormed.testi (r : Reg) (v : Word) : EncodingWellFormed.Statement (.testi r v) := wf_putSI rfl r v

theorem EncodingWellFormed.jmp (v : Word) : EncodingWellFormed.Statement (.jmp v) := wf_putI rfl v

theorem EncodingWellFormed.jeq (v : Word) : EncodingWellFormed.Statement (.jeq v) := wf_putI rfl v

theorem EncodingWellFormed.jz (v : Word) : EncodingWellFormed.Statement (.jz v) := wf_putI rfl v

theorem EncodingWellFormed.jne (v : Word) : EncodingWellFormed.Statement (.jne v) := wf_putI rfl v

theorem EncodingWellFormed.jnz (v : Word) : EncodingWellFormed.Statement (.jnz v) := wf_putI rfl v

theorem EncodingWellFormed.jlt (v : Word) : EncodingWellFormed.Statement (.jlt v) := wf_putI rfl v

theorem EncodingWellFormed.jgt (v : Word) : EncodingWellFormed.Statement (.jgt v) := wf_putI rfl v

theorem EncodingWellFormed.jle (v : Word) : EncodingWellFormed.Statement (.jle v) := wf_putI rfl v

theorem EncodingWellFormed.jge (v : Word) : EncodingWellFormed.Statement (.jge v) := wf_putI rfl v

theorem EncodingWellFormed.jc (v : Word) : EncodingWellFormed.Statement (.jc v) := wf_putI rfl v

theorem EncodingWellFormed.jnc (v : Word) : EncodingWellFormed.Statement (.jnc v) := wf_putI rfl v

theorem EncodingWellFormed.jo (v : Word) : EncodingWellFormed.Statement (.jo v) := wf_putI rfl v

theorem EncodingWellFormed.jno (v : Word) : EncodingWellFormed.Statement (.jno v) := wf_putI rfl v

theorem EncodingWellFormed.push (r : Reg) : EncodingWellFormed.Statement (.push r) := wf_putS rfl r

theorem EncodingWellFormed.pop (r : Reg) : EncodingWellFormed.Statement (.pop r) := wf_putD rfl r

theorem EncodingWellFormed.call (v : Word) : EncodingWellFormed.Statement (.call v) := wf_putI rfl v

theorem EncodingWellFormed.ret : EncodingWellFormed.Statement (.ret) := wf_putN rfl

theorem EncodingWellFormed.pusha : EncodingWellFormed.Statement (.pusha) := wf_putN rfl

theorem EncodingWellFormed.popa : EncodingWellFormed.Statement (.popa) := wf_putN rfl

theorem EncodingWellFormed.pushf : EncodingWellFormed.Statement (.pushf) := wf_putN rfl

theorem EncodingWellFormed.popf : EncodingWellFormed.Statement (.popf) := wf_putN rfl

theorem EncodingWellFormed.int (v : Word) : EncodingWellFormed.Statement (.int v) := wf_putI rfl v

theorem EncodingWellFormed.cli : EncodingWellFormed.Statement (.cli) := wf_putN rfl

theorem EncodingWellFormed.sti : EncodingWellFormed.Statement (.sti) := wf_putN rfl

theorem EncodingWellFormed.iret : EncodingWellFormed.Statement (.iret) := wf_putN rfl

end Sys2Proof.Laws
end

