-- ==== Sys2Proof/Machine/Render.lean ====
section
/-! DEFINITION. `RenderOutput` (47_interrupt.md R1111): the text of the output port. It belongs to the host: no
engine state depends on it, and step does not use it. -/

namespace Sys2Proof.Machine

/-- A natural number in a base, no leading zeros (`0` for 0), upper-case digits (R1111). -/
def digits (base n : Nat) : List Char := (Nat.toDigits base n).map Char.toUpper

/-- `u(v)` in decimal. -/
def unsignedText (v : Word) : List Char := digits 10 v.toNat

/-- `s(v)` in decimal, with a leading `-` if negative. -/
def signedText (v : Word) : List Char :=
  if v.toInt < 0 then '-' :: digits 10 v.toInt.natAbs else digits 10 v.toInt.natAbs

/-- A line (R1111): a newline before it where the text is not empty and does not end in one, and one after it. -/
def appendLine (text line : List Char) : List Char :=
  (if text.isEmpty || text.getLast? == some '\n' then text else text ++ ['\n']) ++ line ++ ['\n']

/-- The line of a diagnostic (R1111); the address of MEM_RANGE is unsigned decimal (log entry 14). -/
def diagText (d : Diag) : List Char :=
  match d with
  | .unknownInt n => "[Unknown INT #".toList ++ signedText n ++ [']']
  | .unknownInstruction p _ => "[Unknown instruction at ".toList ++ unsignedText p ++ [']']
  | .divZero p => "[Division by zero at ".toList ++ unsignedText p ++ [']']
  | .memRange p a =>
    "[Memory address out of range at ".toList ++ unsignedText p ++ ": ".toList ++ unsignedText a ++ [']']

/-- One record rendered after the text so far (R1111). -/
def renderRecord (text : List Char) (r : OutRecord) : List Char :=
  match r with
  | .char v => text ++ [Char.ofNat (v.extractLsb' 0 8).toNat]
  | .num v => text ++ signedText v
  | .hex v => text ++ digits 16 v.toNat
  | .bin v => text ++ digits 2 v.toNat
  | .diag d => appendLine text (diagText d)
  | .haltMarker => appendLine text "[Program halted]".toList
  | .stopMarker => appendLine text "[Program stopped]".toList

/-- The default `RenderOutput` (R1111). -/
def renderPlain (out : List OutRecord) : List Char := out.foldl renderRecord []

/-- `RenderOutput` as the parameter chooses it (R1111): the rule lays no law on another choice (log entry 21). -/
def renderOutput (choice : Rendering) (out : List OutRecord) : List Char :=
  match choice with
  | .plain => renderPlain out
  | .other k => Config.otherRendering k out

/-- The source's accumulated output text (R1111), under the machine's own parameter. -/
def State.outputText (s : State) : List Char := renderOutput s.par.rendering s.out

end Sys2Proof.Machine
end

