-- ==== Sys2Proof/Tests/Slice0.lean ====
section
/-! SUPPORT. Tests. The expected results are the spec's: its encodings (30_encoding.md), its vectors (95_test_vectors.md) and its
examples. Then one witness for each statement of Certificates/Slice0/Obligations.lean that has hypotheses: a concrete state and
operands that meet them. -/

namespace Sys2Proof.Tests

open Sys2Proof Sys2Proof.Machine Sys2Proof.Claims

section

set_option Elab.async false

/-! ## Well-formedness: an ill-formed word for each check, refused by it and by the decoder under the check's name -/

/-- A well-formed `ADD R0, R1, R2`, to be spoilt field by field. -/
def addFields : Fields := { opc := 0x20, rd := 0, ra := 1, rb := 2, m := false, b := false, rsv := 0, imm := 0 }

/-- A well-formed `SHL R0, R1, #3`. -/
def shlFields : Fields := { opc := 0x36, rd := 0, ra := 1, rb := 0, m := true, b := false, rsv := 0, imm := 3 }

/-- The fields fail the checks of WellFormed.lean, and the decoder rejects them for the reason given. -/
def refusedFor (f : Fields) (why : Reject) : Prop := f.wf = false ∧ decode f.toWord = .error why

theorem test_wf_accepts : addFields.wf = true ∧ shlFields.wf = true := by decide

theorem test_wf_reserved_opcode : refusedFor { addFields with opc := 0x04 } .reservedOpcode := ⟨by decide, rfl⟩

theorem test_wf_rsv : refusedFor { addFields with rsv := 1 } .reservedBits := ⟨by decide, rfl⟩

theorem test_wf_blank_outside_nop : refusedFor { addFields with b := true } .blankBit := ⟨by decide, rfl⟩

theorem test_wf_rd_reserved : refusedFor { addFields with rd := 10 } .reservedRegister := ⟨by decide, rfl⟩

theorem test_wf_ra_reserved : refusedFor { addFields with ra := 15 } .reservedRegister := ⟨by decide, rfl⟩

theorem test_wf_rb_reserved : refusedFor { addFields with rb := 10 } .reservedRegister := ⟨by decide, rfl⟩

theorem test_wf_mode_without_op2 : refusedFor { addFields with m := true } .unusedMode := ⟨by decide, rfl⟩

theorem test_wf_unused_imm : refusedFor { addFields with imm := 1 } .unusedImmediate := ⟨by decide, rfl⟩

theorem test_wf_unused_ra : refusedFor { addFields with opc := 0x10, rb := 0 } .unusedRegister := ⟨by decide, rfl⟩

theorem test_wf_unused_rd : refusedFor { addFields with opc := 0x50, rd := 1 } .unusedRegister := ⟨by decide, rfl⟩

theorem test_wf_unused_rb : refusedFor { addFields with opc := 0x11 } .unusedRegister := ⟨by decide, rfl⟩

theorem test_wf_op2_immediate_with_rb : refusedFor { shlFields with rb := 2 } .unusedRegister := ⟨by decide, rfl⟩

theorem test_wf_op2_register_with_imm : refusedFor { shlFields with m := false } .unusedImmediate := ⟨by decide, rfl⟩

theorem test_wf_op2_register_reserved :
    refusedFor { shlFields with m := false, rb := 12, imm := 0 } .reservedRegister := ⟨by decide, rfl⟩

/-! ## Decoding: a word of every constructor, written out from its encoding (R301, R310) -/

/-- The instructions of words, none for an invalid one. -/
def decoded (ws : List InstrWord) : List (Option Instr) := ws.map fun w => (decode w).toOption

theorem test_decode_control :
    decoded [0x0000000000000000, 0x0000040000000000, 0x0100000000000000, 0x0200000000000000, 0x0300000000000000] =
      [some (.nop false), some (.nop true), some .halt, some .reset, some .debug] := by
  decide +kernel

theorem test_decode_data_movement :
    decoded [0x10300000FFFFFFFF, 0x1121000000000000, 0x121000000000000A, 0x1303000000000010, 0x1401000000000000,
        0x1500100000000000, 0x168000000000012C, 0x1798000000000000] =
      [some (.load .r3 0xFFFFFFFF), some (.mov .r2 .r1), some (.ldr .r1 10), some (.str .r3 16),
       some (.ldri .r0 .r1), some (.stri .r0 .r1), some (.lea .sp 300), some (.swap .lr .sp)] := by
  decide +kernel

theorem test_decode_arithmetic :
    decoded [0x2001200000000000, 0x2134500000000000, 0x2267800000000000, 0x2301200000000000, 0x2401200000000000,
        0x25010000FFFFFFFF, 0x2601000000000007, 0x27010000000186A0, 0x2801000000000004, 0x2901000000000004,
        0x2A01200000000000, 0x2B01000000000000, 0x2C98000000000000, 0x2D01000000000000, 0x2E80000000000000,
        0x2F10000000000000] =
      [some (.add .r0 .r1 .r2), some (.sub .r3 .r4 .r5), some (.mul .r6 .r7 .sp), some (.div .r0 .r1 .r2),
       some (.mod .r0 .r1 .r2), some (.addi .r0 .r1 0xFFFFFFFF), some (.subi .r0 .r1 7),
       some (.muli .r0 .r1 100000), some (.divi .r0 .r1 4), some (.modi .r0 .r1 4), some (.pow .r0 .r1 .r2),
       some (.sqrt .r0 .r1), some (.abs .lr .sp), some (.neg .r0 .r1), some (.inc .sp), some (.dec .r1)] := by
  decide +kernel

theorem test_decode_logic_and_bits :
    decoded [0x3001200000000000, 0x3101200000000000, 0x3200000000000000, 0x3301000000000000, 0x3401200000000000,
        0x3501200000000000, 0x3601200000000000, 0x3701080000000004, 0x3801080000000008, 0x3901200000000000,
        0x400008000000001F, 0x4100100000000000, 0x4200100000000000, 0x4301080000000002, 0x4401000000000000,
        0x4501000000000000] =
      [some (.and .r0 .r1 .r2), some (.or .r0 .r1 .r2), some (.xor .r0 .r0 .r0), some (.not .r0 .r1),
       some (.nand .r0 .r1 .r2), some (.nor .r0 .r1 .r2), some (.shl .r0 .r1 (.reg .r2)),
       some (.shr .r0 .r1 (.imm 4)), some (.rol .r0 .r1 (.imm 8)), some (.ror .r0 .r1 (.reg .r2)),
       some (.setbit .r0 (.imm 31)), some (.clrbit .r0 (.reg .r1)), some (.togbit .r0 (.reg .r1)),
       some (.testbit .r1 (.imm 2)), some (.popcnt .r0 .r1), some (.clz .r0 .r1)] := by
  decide +kernel

theorem test_decode_compare_and_branch :
    decoded [0x5001200000000000, 0x51010000FFFFFFFF, 0x5201200000000000, 0x5301000000000004, 0x6000000000000009,
        0x6100000000000009, 0x6200000000000009, 0x6300000000000009, 0x6400000000000009, 0x6500000000000009,
        0x6600000000000009, 0x6700000000000009, 0x6800000000000009, 0x6900000000000009, 0x6A00000000000009,
        0x6B00000000000009, 0x6C00000000000009] =
      [some (.cmp .r1 .r2), some (.cmpi .r1 0xFFFFFFFF), some (.test .r1 .r2), some (.testi .r1 4), some (.jmp 9),
       some (.jeq 9), some (.jz 9), some (.jne 9), some (.jnz 9), some (.jlt 9), some (.jgt 9), some (.jle 9),
       some (.jge 9), some (.jc 9), some (.jnc 9), some (.jo 9), some (.jno 9)] := by
  decide +kernel

theorem test_decode_stack_and_interrupt :
    decoded [0x7008000000000000, 0x7120000000000000, 0x7200000000000009, 0x7300000000000000, 0x7400000000000000,
        0x7500000000000000, 0x7600000000000000, 0x7700000000000000, 0x8000000000000099, 0x8100000000000000,
        0x8200000000000000, 0x8300000000000000] =
      [some (.push .sp), some (.pop .r2), some (.call 9), some .ret, some .pusha, some .popa, some .pushf, some .popf,
       some (.int 0x99), some .cli, some .sti, some .iret] := by
  decide +kernel

/-- The invalid words of 95_test_vectors.md 2.1. -/
theorem test_decode_invalid :
    decoded [0x0400000000000000, 0xFF00000000000005, 0x0100000100000000, 0x0100040000000000, 0x0100000000000001,
        0x11A1000000000000, 0x2001280000000000, 0x3601280000000001, 0x3601200000000001, 0x1011000000000005] =
      List.replicate 10 none := by
  decide +kernel

/-! ## One step of each instruction: the vectors of 95_test_vectors.md, section 2 -/

/-- The start state of the vectors: reset, the word at index 0 of 16 words padded with blank NOPs, RUN = RUNNING. -/
def before (w : InstrWord) : State :=
  { State.reset with run := .running, imem := w :: List.replicate 15 0x0000040000000000 }

/-- What is seen of the next state. -/
def look {α : Type} (s : State) (see : State → α) : Option α :=
  match step s with
  | .next t => some (see t)
  | .fault _ => none
  | .refused _ => none

theorem test_load_stores_whole_word :
    look (before 0x10300000FFFFFFFF)
      (fun t => (t.reg .r3, t.flags, t.pc)) = some (0xFFFFFFFF, ⟨false, false, false, false, false⟩, 1) := by
  decide +kernel

theorem test_load_sp :
    look (before 0x1080000000000064)
      (fun t => (t.reg .sp, t.flags, t.pc)) = some (0x64, ⟨false, false, false, false, false⟩, 1) := by
  decide +kernel

theorem test_mov_copies :
    look ({ before 0x1121000000000000 with regs := { Regs.reset with r1 := 0x2A } })
      (fun t => (t.reg .r2, t.flags, t.pc)) = some (0x2A, ⟨false, false, false, false, false⟩, 1) := by
  decide +kernel

theorem test_ldr_last_cell :
    look ({ before 0x12100000000000FF with regs := { Regs.reset with r1 := 5 }, dmem := [(255, 3)] })
      (fun t => (t.reg .r1, t.flags, t.pc)) = some (3, ⟨false, false, false, false, false⟩, 1) := by
  decide +kernel

theorem test_ldr_out_of_range_reads_zero :
    look ({ before 0x1210000000000100 with regs := { Regs.reset with r1 := 5 } })
      (fun t => (t.reg .r1, t.flags, t.pc)) = some (0, ⟨false, false, false, false, false⟩, 1) := by
  decide +kernel

theorem test_str_first_cell :
    look ({ before 0x1300000000000000 with regs := { Regs.reset with r0 := 0x37 } })
      (fun t => (t.flags, t.dmem, t.pc)) = some (⟨false, false, false, false, false⟩, [(0, 55)], 1) := by
  decide +kernel

theorem test_str_out_of_range_is_dropped :
    look ({ before 0x1300000000000100 with regs := { Regs.reset with r0 := 0x37 } })
      (fun t => (t.flags, t.dmem, t.pc)) = some (⟨false, false, false, false, false⟩, [], 1) := by
  decide +kernel

theorem test_ldri_address_read_first :
    look ({ before 0x1411000000000000 with regs := { Regs.reset with r1 := 4 }, dmem := [(4, 77)] })
      (fun t => (t.reg .r1, t.flags, t.pc)) = some (0x4D, ⟨false, false, false, false, false⟩, 1) := by
  decide +kernel

theorem test_ldri_negative_address_reads_zero :
    look ({ before 0x1401000000000000 with regs := { Regs.reset with r0 := 9, r1 := 0xFFFFFFFF } })
      (fun t => (t.reg .r0, t.flags, t.pc)) = some (0, ⟨false, false, false, false, false⟩, 1) := by
  decide +kernel

theorem test_stri_value_and_address_order :
    look ({ before 0x1500100000000000 with regs := { Regs.reset with r0 := 0xC, r1 := 0xC8 } })
      (fun t => (t.flags, t.dmem, t.pc)) = some (⟨false, false, false, false, false⟩, [(200, 12)], 1) := by
  decide +kernel

theorem test_stri_out_of_range_is_dropped :
    look ({ before 0x1500100000000000 with regs := { Regs.reset with r0 := 0xC, r1 := 0x3E8 } })
      (fun t => (t.flags, t.dmem, t.pc)) = some (⟨false, false, false, false, false⟩, [], 1) := by
  decide +kernel

theorem test_lea_no_range_check :
    look (before 0x162000000000012C)
      (fun t => (t.reg .r2, t.flags, t.pc)) = some (0x12C, ⟨false, false, false, false, false⟩, 1) := by
  decide +kernel

theorem test_swap_with_sp :
    look ({ before 0x1708000000000000 with regs := { Regs.reset with r0 := 3 } })
      (fun t => (t.reg .r0, t.reg .sp, t.flags, t.pc)) = some (0xFF, 3, ⟨false, false, false, false, false⟩, 1) := by
  decide +kernel

theorem test_add_wraps_with_carry :
    look ({ before 0x2001200000000000 with regs := { Regs.reset with r1 := 0xFFFFFFFF, r2 := 1 } })
      (fun t => (t.reg .r0, t.flags, t.pc)) = some (0, ⟨true, true, false, false, false⟩, 1) := by
  decide +kernel

theorem test_add_keeps_overflow_flag :
    look ({ before 0x2001200000000000 with regs := { Regs.reset with r1 := 0x7FFFFFFF, r2 := 1 }, flags := ⟨false, false, false, true, false⟩ })
      (fun t => (t.reg .r0, t.flags, t.pc)) = some (0x80000000, ⟨false, false, true, true, false⟩, 1) := by
  decide +kernel

theorem test_sub_borrow :
    look ({ before 0x2101200000000000 with regs := { Regs.reset with r1 := 3, r2 := 5 } })
      (fun t => (t.reg .r0, t.flags, t.pc)) = some (0xFFFFFFFE, ⟨false, true, true, false, false⟩, 1) := by
  decide +kernel

theorem test_sub_equal_clears_borrow :
    look ({ before 0x2101200000000000 with regs := { Regs.reset with r1 := 5, r2 := 5 }, flags := ⟨false, true, true, false, false⟩ })
      (fun t => (t.reg .r0, t.flags, t.pc)) = some (0, ⟨true, false, false, false, false⟩, 1) := by
  decide +kernel

theorem test_mul_overflow_to_zero :
    look ({ before 0x2201200000000000 with regs := { Regs.reset with r1 := 0x10000, r2 := 0x10000 } })
      (fun t => (t.reg .r0, t.flags, t.pc)) = some (0, ⟨true, false, false, true, false⟩, 1) := by
  decide +kernel

theorem test_mul_unsigned_overflow :
    look ({ before 0x2201200000000000 with regs := { Regs.reset with r1 := 0xFFFFFFFF, r2 := 0xFFFFFFFF } })
      (fun t => (t.reg .r0, t.flags, t.pc)) = some (1, ⟨false, false, false, true, false⟩, 1) := by
  decide +kernel

theorem test_div_by_zero :
    look ({ before 0x2301200000000000 with regs := { Regs.reset with r0 := 9, r1 := 7, r2 := 0 } })
      (fun t => (t.reg .r0, t.flags, t.pc)) = some (0, ⟨true, false, false, true, false⟩, 1) := by
  decide +kernel

theorem test_div_min_by_minus_one :
    look ({ before 0x2301200000000000 with regs := { Regs.reset with r1 := 0x80000000, r2 := 0xFFFFFFFF } })
      (fun t => (t.reg .r0, t.flags, t.pc)) = some (0x80000000, ⟨false, false, true, true, false⟩, 1) := by
  decide +kernel

theorem test_mod_sign_of_dividend :
    look ({ before 0x2401200000000000 with regs := { Regs.reset with r1 := 0xFFFFFFF9, r2 := 2 } })
      (fun t => (t.reg .r0, t.flags, t.pc)) = some (0xFFFFFFFF, ⟨false, false, true, false, false⟩, 1) := by
  decide +kernel

theorem test_mod_by_zero :
    look ({ before 0x2401200000000000 with regs := { Regs.reset with r0 := 4, r1 := 7, r2 := 0 } })
      (fun t => (t.reg .r0, t.flags, t.pc)) = some (0, ⟨true, false, false, true, false⟩, 1) := by
  decide +kernel

theorem test_addi_minus_one_carries :
    look ({ before 0x25010000FFFFFFFF with regs := { Regs.reset with r1 := 1 } })
      (fun t => (t.flags, t.pc)) = some (⟨true, true, false, false, false⟩, 1) := by
  decide +kernel

theorem test_subi_borrow :
    look ({ before 0x2601000000000007 with regs := { Regs.reset with r1 := 5 } })
      (fun t => (t.reg .r0, t.flags, t.pc)) = some (0xFFFFFFFE, ⟨false, true, true, false, false⟩, 1) := by
  decide +kernel

theorem test_muli_low_word :
    look ({ before 0x27010000000186A0 with regs := { Regs.reset with r1 := 0x186A0 } })
      (fun t => (t.reg .r0, t.flags, t.pc)) = some (0x540BE400, ⟨false, false, false, true, false⟩, 1) := by
  decide +kernel

theorem test_divi :
    look ({ before 0x2801000000000004 with regs := { Regs.reset with r1 := 0x64 } })
      (fun t => (t.reg .r0, t.flags, t.pc)) = some (0x19, ⟨false, false, false, false, false⟩, 1) := by
  decide +kernel

theorem test_modi :
    look ({ before 0x2901000000000004 with regs := { Regs.reset with r1 := 0x67 } })
      (fun t => (t.reg .r0, t.flags, t.pc)) = some (3, ⟨false, false, false, false, false⟩, 1) := by
  decide +kernel

theorem test_pow_reaches_word_size :
    look ({ before 0x2A01200000000000 with regs := { Regs.reset with r1 := 2, r2 := 0x20 } })
      (fun t => (t.reg .r0, t.flags, t.pc)) = some (0, ⟨true, false, false, true, false⟩, 1) := by
  decide +kernel

theorem test_pow_of_minus_one :
    look ({ before 0x2A01200000000000 with regs := { Regs.reset with r1 := 0xFFFFFFFF, r2 := 3 } })
      (fun t => (t.reg .r0, t.flags, t.pc)) = some (0xFFFFFFFF, ⟨false, false, true, true, false⟩, 1) := by
  decide +kernel

theorem test_sqrt_floor :
    look ({ before 0x2B01000000000000 with regs := { Regs.reset with r1 := 0x11 } })
      (fun t => (t.reg .r0, t.flags, t.pc)) = some (4, ⟨false, false, false, false, false⟩, 1) := by
  decide +kernel

theorem test_sqrt_of_greatest_word :
    look ({ before 0x2B01000000000000 with regs := { Regs.reset with r1 := 0xFFFFFFFF } })
      (fun t => (t.reg .r0, t.flags, t.pc)) = some (0xFFFF, ⟨false, false, false, false, false⟩, 1) := by
  decide +kernel

theorem test_abs_negative :
    look ({ before 0x2C01000000000000 with regs := { Regs.reset with r1 := 0xFFFFFFF7 } })
      (fun t => (t.reg .r0, t.flags, t.pc)) = some (9, ⟨false, false, false, false, false⟩, 1) := by
  decide +kernel

theorem test_abs_of_min :
    look ({ before 0x2C01000000000000 with regs := { Regs.reset with r1 := 0x80000000 } })
      (fun t => (t.reg .r0, t.flags, t.pc)) = some (0x80000000, ⟨false, false, true, true, false⟩, 1) := by
  decide +kernel

theorem test_neg :
    look ({ before 0x2D01000000000000 with regs := { Regs.reset with r1 := 5 } })
      (fun t => (t.reg .r0, t.flags, t.pc)) = some (0xFFFFFFFB, ⟨false, false, true, false, false⟩, 1) := by
  decide +kernel

theorem test_neg_of_min :
    look ({ before 0x2D01000000000000 with regs := { Regs.reset with r1 := 0x80000000 } })
      (fun t => (t.reg .r0, t.flags, t.pc)) = some (0x80000000, ⟨false, false, true, true, false⟩, 1) := by
  decide +kernel

theorem test_inc_wraps_and_keeps_carry :
    look ({ before 0x2E00000000000000 with regs := { Regs.reset with r0 := 0xFFFFFFFF }, flags := ⟨false, true, false, false, false⟩ })
      (fun t => (t.reg .r0, t.flags, t.pc)) = some (0, ⟨true, true, false, false, false⟩, 1) := by
  decide +kernel

theorem test_dec_below_zero_keeps_overflow :
    look ({ before 0x2F10000000000000 with regs := { Regs.reset with r1 := 0 }, flags := ⟨false, false, false, true, false⟩ })
      (fun t => (t.reg .r1, t.flags, t.pc)) = some (0xFFFFFFFF, ⟨false, false, true, true, false⟩, 1) := by
  decide +kernel

theorem test_and_keeps_carry_and_overflow :
    look ({ before 0x3001200000000000 with regs := { Regs.reset with r1 := 0xC, r2 := 0xA }, flags := ⟨false, true, false, true, false⟩ })
      (fun t => (t.reg .r0, t.flags, t.pc)) = some (8, ⟨false, true, false, true, false⟩, 1) := by
  decide +kernel

theorem test_or :
    look ({ before 0x3101200000000000 with regs := { Regs.reset with r1 := 0xC, r2 := 0xA } })
      (fun t => (t.reg .r0, t.flags, t.pc)) = some (0xE, ⟨false, false, false, false, false⟩, 1) := by
  decide +kernel

theorem test_xor_with_itself :
    look ({ before 0x3200000000000000 with regs := { Regs.reset with r0 := 0x1234 } })
      (fun t => (t.reg .r0, t.flags, t.pc)) = some (0, ⟨true, false, false, false, false⟩, 1) := by
  decide +kernel

theorem test_not_of_zero :
    look ({ before 0x3301000000000000 with regs := { Regs.reset with r1 := 0 } })
      (fun t => (t.reg .r0, t.flags, t.pc)) = some (0xFFFFFFFF, ⟨false, false, true, false, false⟩, 1) := by
  decide +kernel

theorem test_nand :
    look ({ before 0x3401200000000000 with regs := { Regs.reset with r1 := 0xC, r2 := 0xA } })
      (fun t => (t.reg .r0, t.flags, t.pc)) = some (0xFFFFFFF7, ⟨false, false, true, false, false⟩, 1) := by
  decide +kernel

theorem test_nor :
    look ({ before 0x3501200000000000 with regs := { Regs.reset with r1 := 0xC, r2 := 0xA } })
      (fun t => (t.reg .r0, t.flags, t.pc)) = some (0xFFFFFFF1, ⟨false, false, true, false, false⟩, 1) := by
  decide +kernel

theorem test_shl_by_word_size_is_by_zero :
    look ({ before 0x3601080000000020 with regs := { Regs.reset with r1 := 1 } })
      (fun t => (t.reg .r0, t.flags, t.pc)) = some (1, ⟨false, false, false, false, false⟩, 1) := by
  decide +kernel

theorem test_shl_register_amount_modulo :
    look ({ before 0x3601200000000000 with regs := { Regs.reset with r1 := 3, r2 := 0x21 } })
      (fun t => (t.reg .r0, t.flags, t.pc)) = some (6, ⟨false, false, false, false, false⟩, 1) := by
  decide +kernel

theorem test_shr_zeros_enter :
    look ({ before 0x3701080000000004 with regs := { Regs.reset with r1 := 0xFFFFFFF0 } })
      (fun t => (t.reg .r0, t.flags, t.pc)) = some (0xFFFFFFF, ⟨false, false, false, false, false⟩, 1) := by
  decide +kernel

theorem test_rol :
    look ({ before 0x3801080000000008 with regs := { Regs.reset with r1 := 0x12345678 } })
      (fun t => (t.reg .r0, t.flags, t.pc)) = some (0x34567812, ⟨false, false, false, false, false⟩, 1) := by
  decide +kernel

theorem test_rol_by_zero :
    look ({ before 0x3801080000000000 with regs := { Regs.reset with r1 := 0x12345678 } })
      (fun t => (t.reg .r0, t.flags, t.pc)) = some (0x12345678, ⟨false, false, false, false, false⟩, 1) := by
  decide +kernel

theorem test_ror_into_sign :
    look ({ before 0x3901080000000001 with regs := { Regs.reset with r1 := 1 } })
      (fun t => (t.reg .r0, t.flags, t.pc)) = some (0x80000000, ⟨false, false, true, false, false⟩, 1) := by
  decide +kernel

theorem test_ror_register_amount_modulo :
    look ({ before 0x3901200000000000 with regs := { Regs.reset with r1 := 0x12345678, r2 := 0x24 } })
      (fun t => (t.reg .r0, t.flags, t.pc)) = some (0x81234567, ⟨false, false, true, false, false⟩, 1) := by
  decide +kernel

theorem test_setbit_sign :
    look (before 0x400008000000001F)
      (fun t => (t.reg .r0, t.flags, t.pc)) = some (0x80000000, ⟨false, false, true, false, false⟩, 1) := by
  decide +kernel

theorem test_clrbit :
    look ({ before 0x4100100000000000 with regs := { Regs.reset with r0 := 0xFF, r1 := 7 } })
      (fun t => (t.reg .r0, t.flags, t.pc)) = some (0x7F, ⟨false, false, false, false, false⟩, 1) := by
  decide +kernel

theorem test_togbit_index_modulo :
    look ({ before 0x4200100000000000 with regs := { Regs.reset with r0 := 0xFF, r1 := 0x23 } })
      (fun t => (t.reg .r0, t.flags, t.pc)) = some (0xF7, ⟨false, false, false, false, false⟩, 1) := by
  decide +kernel

theorem test_testbit_clear :
    look ({ before 0x4301080000000000 with regs := { Regs.reset with r1 := 4 } })
      (fun t => (t.flags, t.pc)) = some (⟨true, false, false, false, false⟩, 1) := by
  decide +kernel

theorem test_testbit_sign :
    look ({ before 0x430008000000001F with regs := { Regs.reset with r0 := 0x80000000 } })
      (fun t => (t.flags, t.pc)) = some (⟨false, false, true, false, false⟩, 1) := by
  decide +kernel

theorem test_popcnt_all_ones :
    look ({ before 0x4401000000000000 with regs := { Regs.reset with r1 := 0xFFFFFFFF } })
      (fun t => (t.reg .r0, t.flags, t.pc)) = some (0x20, ⟨false, false, false, false, false⟩, 1) := by
  decide +kernel

theorem test_clz_of_zero :
    look ({ before 0x4501000000000000 with regs := { Regs.reset with r1 := 0 } })
      (fun t => (t.reg .r0, t.flags, t.pc)) = some (0x20, ⟨false, false, false, false, false⟩, 1) := by
  decide +kernel

theorem test_clz_of_one :
    look ({ before 0x4501000000000000 with regs := { Regs.reset with r1 := 1 } })
      (fun t => (t.reg .r0, t.flags, t.pc)) = some (0x1F, ⟨false, false, false, false, false⟩, 1) := by
  decide +kernel

theorem test_cmp_below :
    look ({ before 0x5001200000000000 with regs := { Regs.reset with r1 := 3, r2 := 5 } })
      (fun t => (t.flags, t.pc)) = some (⟨false, true, true, false, false⟩, 1) := by
  decide +kernel

theorem test_cmp_wrapped_difference :
    look ({ before 0x5001200000000000 with regs := { Regs.reset with r1 := 0x7FFFFFFF, r2 := 0xFFFFFFFF } })
      (fun t => (t.flags, t.pc)) = some (⟨false, true, true, false, false⟩, 1) := by
  decide +kernel

theorem test_cmpi_unsigned_borrow :
    look ({ before 0x51010000FFFFFFFF with regs := { Regs.reset with r1 := 0 } })
      (fun t => (t.flags, t.pc)) = some (⟨false, true, false, false, false⟩, 1) := by
  decide +kernel

theorem test_test_clears_carry :
    look ({ before 0x5201200000000000 with regs := { Regs.reset with r1 := 6, r2 := 1 }, flags := ⟨false, true, false, false, false⟩ })
      (fun t => (t.flags, t.pc)) = some (⟨true, false, false, false, false⟩, 1) := by
  decide +kernel

theorem test_testi :
    look ({ before 0x5301000000000004 with regs := { Regs.reset with r1 := 6 } })
      (fun t => (t.flags, t.pc)) = some (⟨false, false, false, false, false⟩, 1) := by
  decide +kernel

theorem test_jmp :
    look (before 0x6000000000000009)
      (fun t => (t.flags, t.pc)) = some (⟨false, false, false, false, false⟩, 9) := by
  decide +kernel

theorem test_jmp_to_end_halts :
    look (before 0x6000000000000010)
      (fun t => (t.flags, t.run, t.pc)) = some (⟨false, false, false, false, false⟩, .halted, 0x10) := by
  decide +kernel

theorem test_push :
    look ({ before 0x7001000000000000 with regs := { Regs.reset with r1 := 0x2A } })
      (fun t => (t.reg .sp, t.flags, t.stk, t.pc)) = some (0xFE, ⟨false, false, false, false, false⟩, [0x2A], 1) := by
  decide +kernel

theorem test_push_sp_pushes_old_value :
    look (before 0x7008000000000000)
      (fun t => (t.reg .sp, t.flags, t.stk, t.pc)) = some (0xFE, ⟨false, false, false, false, false⟩, [0xFF], 1) := by
  decide +kernel

theorem test_pop_on_empty_stack :
    look ({ before 0x7120000000000000 with regs := { Regs.reset with r2 := 5 } })
      (fun t => (t.flags, t.stk, t.pc)) = some (⟨false, false, false, false, false⟩, [], 1) := by
  decide +kernel

theorem test_pop_sp_keeps_popped_value :
    look ({ before 0x7180000000000000 with stk := [0x64] })
      (fun t => (t.reg .sp, t.flags, t.stk, t.pc)) = some (0x64, ⟨false, false, false, false, false⟩, [], 1) := by
  decide +kernel

theorem test_call_pushes_next_index :
    look (before 0x7200000000000009)
      (fun t => (t.reg .sp, t.flags, t.stk, t.pc)) = some (0xFE, ⟨false, false, false, false, false⟩, [1], 9) := by
  decide +kernel

theorem test_ret :
    look ({ before 0x7300000000000000 with stk := [5] })
      (fun t => (t.reg .sp, t.flags, t.stk, t.pc)) = some (0x100, ⟨false, false, false, false, false⟩, [], 5) := by
  decide +kernel

theorem test_ret_on_empty_stack :
    look (before 0x7300000000000000)
      (fun t => (t.flags, t.pc)) = some (⟨false, false, false, false, false⟩, 1) := by
  decide +kernel

theorem test_pusha_order :
    look ({ before 0x7400000000000000 with regs := { Regs.reset with r0 := 1, r7 := 8 } })
      (fun t => (t.reg .sp, t.flags, t.stk, t.pc)) = some (0xF7, ⟨false, false, false, false, false⟩, [8, 0, 0, 0, 0, 0, 0, 1], 1) := by
  decide +kernel

theorem test_popa_short_stack :
    look ({ before 0x7500000000000000 with stk := [5, 9] })
      (fun t => (t.reg .r6, t.reg .r7, t.reg .sp, t.stk)) = some (9, 5, 0x101, []) := by
  decide +kernel

theorem test_pushf_packing :
    look ({ before 0x7600000000000000 with flags := ⟨true, false, false, true, false⟩ })
      (fun t => (t.reg .sp, t.flags, t.stk, t.pc)) = some (0xFE, ⟨true, false, false, true, false⟩, [9], 1) := by
  decide +kernel

theorem test_popf_unpacking :
    look ({ before 0x7700000000000000 with flags := ⟨true, false, false, true, false⟩, stk := [6] })
      (fun t => (t.reg .sp, t.flags, t.stk, t.pc)) = some (0x100, ⟨false, true, true, false, false⟩, [], 1) := by
  decide +kernel

theorem test_popf_ignores_high_bits :
    look ({ before 0x7700000000000000 with flags := ⟨true, true, true, true, false⟩, stk := [0xFFFFFFF0] })
      (fun t => (t.reg .sp, t.flags, t.stk, t.pc)) = some (0x100, ⟨false, false, false, false, false⟩, [], 1) := by
  decide +kernel

theorem test_nop_keeps_flags :
    look ({ before 0x0000000000000000 with regs := { Regs.reset with r0 := 3 }, flags := ⟨true, false, false, false, false⟩ })
      (fun t => (t.flags, t.pc)) = some (⟨true, false, false, false, false⟩, 1) := by
  decide +kernel

theorem test_halt_keeps_pc_and_marks :
    look (before 0x0100000000000000)
      (fun t => (t.flags, t.out, t.run, t.pc)) = some (⟨false, false, false, false, false⟩, [.haltMarker], .halted, 0) := by
  decide +kernel

theorem test_reset_clears_machine_state :
    look ({ before 0x0200000000000000 with regs := { Regs.reset with r0 := 3, sp := 0xFA, lr := 4 }, flags := ⟨true, false, false, false, true⟩, stk := [1], dmem := [(7, 7)] })
      (fun t => (t.reg .sp, t.flags, t.stk, t.dmem)) = some (0xFF, ⟨false, false, false, false, false⟩, [], []) := by
  decide +kernel

theorem test_debug_marks_trace :
    look (before 0x0300000000000000)
      (fun t => (t.flags, t.trace, t.pc)) = some (⟨false, false, false, false, false⟩, [.debugMark 0], 1) := by
  decide +kernel

theorem test_cli_keeps_zero :
    look ({ before 0x8100000000000000 with flags := ⟨true, false, false, false, true⟩ })
      (fun t => (t.flags, t.pc)) = some (⟨true, false, false, false, false⟩, 1) := by
  decide +kernel

theorem test_sti :
    look (before 0x8200000000000000)
      (fun t => (t.flags, t.pc)) = some (⟨false, false, false, false, true⟩, 1) := by
  decide +kernel

theorem test_iret_flags_then_pc :
    look ({ before 0x8300000000000000 with flags := ⟨false, false, false, false, true⟩, stk := [3, 0xC] })
      (fun t => (t.reg .sp, t.flags, t.stk, t.pc)) = some (0x101, ⟨true, true, false, false, false⟩, [], 0xC) := by
  decide +kernel

theorem test_iret_one_entry :
    look ({ before 0x8300000000000000 with stk := [3] })
      (fun t => (t.reg .sp, t.flags, t.stk, t.pc)) = some (0x100, ⟨true, true, false, false, false⟩, [], 1) := by
  decide +kernel

theorem test_jeq_taken_and_not_taken :
    look ({ before 0x6100000000000009 with flags := ⟨true, false, false, false, false⟩ }) (fun t => t.pc) = some 9 ∧
    look (before 0x6100000000000009) (fun t => t.pc) = some 1 := by
  decide +kernel

theorem test_jz_taken_and_not_taken :
    look ({ before 0x6200000000000009 with flags := ⟨true, false, false, false, false⟩ }) (fun t => t.pc) = some 9 ∧
    look (before 0x6200000000000009) (fun t => t.pc) = some 1 := by
  decide +kernel

theorem test_jne_taken_and_not_taken :
    look (before 0x6300000000000009) (fun t => t.pc) = some 9 ∧
    look ({ before 0x6300000000000009 with flags := ⟨true, false, false, false, false⟩ }) (fun t => t.pc) = some 1 := by
  decide +kernel

theorem test_jnz_taken_and_not_taken :
    look (before 0x6400000000000009) (fun t => t.pc) = some 9 ∧
    look ({ before 0x6400000000000009 with flags := ⟨true, false, false, false, false⟩ }) (fun t => t.pc) = some 1 := by
  decide +kernel

theorem test_jlt_taken_and_not_taken :
    look ({ before 0x6500000000000009 with flags := ⟨false, false, true, false, false⟩ }) (fun t => t.pc) = some 9 ∧
    look ({ before 0x6500000000000009 with flags := ⟨true, false, true, false, false⟩ }) (fun t => t.pc) = some 1 := by
  decide +kernel

theorem test_jgt_taken_and_not_taken :
    look (before 0x6600000000000009) (fun t => t.pc) = some 9 ∧
    look ({ before 0x6600000000000009 with flags := ⟨true, false, false, false, false⟩ }) (fun t => t.pc) = some 1 ∧
    look ({ before 0x6600000000000009 with flags := ⟨false, false, true, false, false⟩ }) (fun t => t.pc) = some 1 := by
  decide +kernel

theorem test_jle_taken_and_not_taken :
    look ({ before 0x6700000000000009 with flags := ⟨true, false, false, false, false⟩ }) (fun t => t.pc) = some 9 ∧
    look (before 0x6700000000000009) (fun t => t.pc) = some 1 ∧
    look ({ before 0x6700000000000009 with flags := ⟨false, false, true, false, false⟩ }) (fun t => t.pc) = some 9 := by
  decide +kernel

theorem test_jge_taken_and_not_taken :
    look (before 0x6800000000000009) (fun t => t.pc) = some 9 ∧
    look ({ before 0x6800000000000009 with flags := ⟨false, false, true, false, false⟩ }) (fun t => t.pc) = some 1 ∧
    look ({ before 0x6800000000000009 with flags := ⟨true, false, true, false, false⟩ }) (fun t => t.pc) = some 9 := by
  decide +kernel

theorem test_jc_taken_and_not_taken :
    look ({ before 0x6900000000000009 with flags := ⟨false, true, false, false, false⟩ }) (fun t => t.pc) = some 9 ∧
    look (before 0x6900000000000009) (fun t => t.pc) = some 1 := by
  decide +kernel

theorem test_jnc_taken_and_not_taken :
    look (before 0x6A00000000000009) (fun t => t.pc) = some 9 ∧
    look ({ before 0x6A00000000000009 with flags := ⟨false, true, false, false, false⟩ }) (fun t => t.pc) = some 1 := by
  decide +kernel

theorem test_jo_taken_and_not_taken :
    look ({ before 0x6B00000000000009 with flags := ⟨false, false, false, true, false⟩ }) (fun t => t.pc) = some 9 ∧
    look (before 0x6B00000000000009) (fun t => t.pc) = some 1 := by
  decide +kernel

theorem test_jno_taken_and_not_taken :
    look (before 0x6C00000000000009) (fun t => t.pc) = some 9 ∧
    look ({ before 0x6C00000000000009 with flags := ⟨false, false, false, true, false⟩ }) (fun t => t.pc) = some 1 := by
  decide +kernel

/-- R1107, R1108, R1138: the print value from R7 or R1; a number with no service. -/
theorem test_int_output :
    look ({ before 0x8000000000000000 with regs := { Regs.reset with r1 := 0x41, r7 := 0x42 } })
      (fun t => (t.out, t.pc)) = some ([.char 0x42], 1) ∧
    look ({ before 0x8000000000000001 with regs := { Regs.reset with r1 := 0xFFFFFFFB } })
      (fun t => (t.out, t.pc)) = some ([.num 0xFFFFFFFB], 1) ∧
    look (before 0x8000000000000099) (fun t => (t.out, t.pc)) = some ([.diag (.unknownInt 0x99)], 1) := by
  decide +kernel

/-- R1117, R1119, R1121, R1130: a line, a rectangle, a circle, a key read. -/
theorem test_int_devices :
    look ({ before 0x8000000000000014 with regs := { Regs.reset with r2 := 3 } }) (fun t => t.fb) =
      some [(0, 1), (1, 1), (2, 1), (3, 1)] ∧
    look ({ before 0x8000000000000015 with regs := { Regs.reset with r0 := 1, r1 := 1, r2 := 3, r3 := 2 } })
      (fun t => t.fb) = some [(129, 1), (130, 1), (131, 1), (257, 1), (258, 1), (259, 1)] ∧
    look ({ before 0x8000000000000017 with regs := { Regs.reset with r0 := 10, r1 := 10, r2 := 1 } })
      (fun t => t.fb) = some [(1162, 1), (1289, 1), (1291, 1), (1418, 1)] ∧
    look ({ before 0x8000000000000025 with kbd := { Keyboard.reset with queue := [(0x1E, 0x61), (0x30, 0x62)] } })
      (fun t => (t.reg .r0, t.kbd.queue)) = some (0x61, [(0x30, 0x62)]) := by
  decide +kernel

/-! ## The host's side -/

/-- Key-event vector K1 of 95_test_vectors.md: the event vectors. -/
theorem test_key_event_vectors :
    look ({ before 0 with
        pc := 5, flags := ⟨true, true, false, false, false⟩, sched := [.host (.key 0x1E 0x61)],
        kbd := { Keyboard.reset with enabled := true, handler := 9, handlerValid := true } })
      (fun t => (t.pc, t.stk, t.reg .sp, t.flags.i)) = some (9, [3, 5], 253, true) := by
  decide +kernel

/-- The word that withFetchWord places is the one the next step runs. -/
theorem test_with_fetch_word :
    look (State.reset.withFetchWord 64 0x1010000000000005) (fun t => (t.reg .r1, t.pc, t.run)) =
      some (5, 1, .halted) ∧
    decodeTableWord 64 0x1010000000000005 = some (.load .r1 5) := by
  decide +kernel

/-- Program P4 of 95_test_vectors.md, assembled (R330-R340). -/
theorem test_assembler :
    assemble (["loop: INC R0".toList, "JMP loop".toList]) = [0x2E00000000000000, 0x6000000000000000] := by
  decide +kernel

/-- Where the line after a Step is no blank one, its auto-advance has ended (R415). -/
theorem test_step_before_an_instruction_ends_auto_advance :
    look { State.reset with
      run := .stepping, imem := [0x2E00000000000000, 0x0100000000000000], sched := [.host .step] }
      (fun t => (t.pc, t.advancing)) = some (1, false) := by
  decide +kernel

/-- A key event in STEPPING that vectors to a blank line, while an auto-advance is in progress: that line waits for the next Step
command (R1206). -/
theorem test_key_event_ends_auto_advance :
    look { State.reset with
      run := .stepping, advancing := true, imem := [0x0000040000000000, 0x0100000000000000, 0x0000040000000000],
      kbd := { Keyboard.reset with enabled := true, handler := 2, handlerValid := true },
      sched := [.host (.key 1 2)] }
      (fun t => (t.pc, t.advancing)) = some (2, false) := by
  decide +kernel

/-- The default rendering (R1111). -/
theorem test_render :
    renderOutput .plain [.char 72, .num 0xFFFFFFFF, .diag (.unknownInt 0x99), .hex 255, .haltMarker] =
      "H-1\n[Unknown INT #153]\nFF\n[Program halted]\n".toList := by
  decide +kernel

end

/-! ## Witnesses: a concrete state and operands that meet the hypotheses of each statement -/

/-- The state an outcome goes on to. -/
def after (o : Host.Outcome State Fault Refusal) : State :=
  match o with
  | .next t => t
  | .fault _ => State.reset
  | .refused _ => State.reset

/-- Whether an outcome goes on. -/
def goesOn (o : Host.Outcome State Fault Refusal) : Bool :=
  match o with
  | .next _ => true
  | .fault _ => false
  | .refused _ => false

theorem eq_next_after {o : Host.Outcome State Fault Refusal} (h : goesOn o = true) : o = .next (after o) := by
  cases o with
  | next t => rfl
  | fault r => cases h
  | refused r => cases h

theorem witness_DecodeThenEncodeGivesWord : decode 0x2001200000000000 = .ok (.add .r0 .r1 .r2) := rfl

/-- The ends of the reserved ranges; an invalid word about to be fetched, on either form of the engine's turn; a line with an
unrecognised mnemonic. -/
theorem witness_InvalidWordsOnlyRaiseDiagnostic :
    (∀ n ∈ [0x04, 0x0F, 0x18, 0x1F, 0x3A, 0x3F, 0x46, 0x4F, 0x54, 0x5F, 0x6D, 0x6F, 0x78, 0x7F, 0x84, 0xFF],
      reservedOpcode n) ∧
    reservedOpcode ((0x0400000000000000 : InstrWord).extractLsb' 56 8).toNat ∧
    (let s := before 0x0400000000000000
     EnginesTurn s s ∧ s.run = .running ∧ s.imem[s.pc.toNat]? = some 0x0400000000000000 ∧
       decode 0x0400000000000000 = .error .reservedOpcode) ∧
    (let s : State := { before 0x0400000000000000 with run := .stepping, sched := [.host .step] }
     s.sched = .host .step :: [] ∧ s.run = .stepping ∧ s.imem[s.pc.toNat]? = some 0x0400000000000000) ∧
    EnginesTurn { before 0 with sched := [.engine] } (before 0) ∧
    tokens (content "FOO R1".toList) = ["FOO".toList, "R1".toList] ∧ isMnemonic "FOO".toList = false := by
  refine ⟨by simp [reservedOpcode], by unfold reservedOpcode; decide, ⟨.inl ⟨rfl, rfl⟩, rfl, rfl, rfl⟩,
    ⟨rfl, rfl, rfl⟩, .inr ⟨[], rfl, rfl⟩, by decide +kernel, by decide +kernel⟩

/-- A program of one word, an empty one, accepted in IDLE and not in RUNNING; each start command, and Reset. -/
theorem witness_StartAndResetCommands :
    ({ State.reset with sched := [.host (.run [0])] } : State).sched = .host (.run [0]) :: [] ∧
    ({ before 0 with sched := [.host (.run [])] } : State).sched = .host (.run []) :: [] ∧
    ({ State.reset with sched := [.host (.stepStart [0])] } : State).sched = .host (.stepStart [0]) :: [] ∧
    ([0] : List InstrWord).length < 2 ^ 32 ∧ ([] : List InstrWord).length < 2 ^ 32 ∧
    ({ before 0 with sched := [.host .reset] } : State).sched = .host .reset :: [] := by
  refine ⟨rfl, rfl, rfl, by decide, by decide, rfl⟩

theorem witness_StopAndSpeedCommands :
    ({ before 0 with sched := [.host .stop] } : State).sched = .host .stop :: [] ∧
    ({ before 0 with sched := [.host (.speed 100)] } : State).sched = .host (.speed 100) :: [] := ⟨rfl, rfl⟩

/-- A key event in HALTED, with the keyboard interrupt enabled; an engine's turn in IDLE; one in STEPPING at an instruction. -/
theorem witness_NothingExecutesAtRest :
    (let s : State := { State.reset with
      run := .halted, sched := [.host (.key 1 2)],
      kbd := { Keyboard.reset with enabled := true, handlerValid := true } }
     s.atRest ∧ ¬ StartsNext s ∧ ¬ ResetsNext s ∧ s.sched = .host (.key 1 2) :: []) ∧
    (State.reset.atRest ∧ ¬ StartsNext State.reset ∧ ¬ ResetsNext State.reset ∧
      ∀ scan ascii q, State.reset.sched ≠ .host (.key scan ascii) :: q) ∧
    (let s : State := { before 0x2E00000000000000 with run := .stepping }
     EnginesTurn s s ∧ s.run = .stepping ∧ s.advancing = false) := by
  refine ⟨⟨.inr (.inl rfl), ?_, ?_, rfl⟩, ⟨.inl rfl, ?_, ?_, ?_⟩, .inl ⟨rfl, rfl⟩, rfl, rfl⟩
  · rintro ⟨p, q, h | h⟩ <;> simp at h
  · rintro ⟨q, h⟩
    simp at h
  · rintro ⟨p, q, h | h⟩ <;> cases h
  · rintro ⟨q, h⟩
    cases h
  · intro scan ascii q h
    cases h

theorem witness_StepRunsDecodedInstruction :
    let s := before 0x2E00000000000000
    EnginesTurn s s ∧ s.run = .running ∧ s.imem[s.pc.toNat]? = some 0x2E00000000000000 ∧
      decode 0x2E00000000000000 = .ok (.inc .r0) := ⟨.inl ⟨rfl, rfl⟩, rfl, rfl, rfl⟩

/-- A Step command in RUNNING, and one in STEPPING. -/
theorem witness_StepCommandRunsOneInstruction :
    (let s : State := { before 0 with sched := [.host .step] }
     s.sched = .host .step :: [] ∧ s.run ≠ .stepping) ∧
    (let s : State := { before 0x2E00000000000000 with run := .stepping, sched := [.host .step] }
     s.sched = .host .step :: [] ∧ s.run = .stepping ∧ s.imem[s.pc.toNat]? = some 0x2E00000000000000 ∧
       decode 0x2E00000000000000 = .ok (.inc .r0)) := ⟨⟨rfl, by decide⟩, rfl, rfl, rfl, rfl⟩

/-- One blank line before a HALT, and one at the end of the program. -/
theorem witness_AutoAdvanceSkipsBlankLines :
    (∀ p : List InstrWord, p = [0x0000040000000000, 0x0100000000000000] ∨ p = [0x0000040000000000] →
      let s : State := { State.reset with run := .stepping, advancing := true, imem := p }
      s.run = .stepping ∧ s.advancing = true ∧ s.sched = [] ∧ s.par.traceBus = false ∧ s.imem.length < 2 ^ 32 ∧
        (∀ j < 1, s.imem[s.pc.toNat + j]? = some 0x0000040000000000) ∧
        (s.imem[s.pc.toNat + 1]? = some 0x0100000000000000 ∨ s.pc.toNat + 1 = s.imem.length)) ∧
    (0x0100000000000000 : InstrWord) ≠ 0x0000040000000000 := by
  refine ⟨?_, by decide⟩
  rintro p (rfl | rfl)
  · exact ⟨rfl, rfl, rfl, rfl, by decide, by decide, .inl rfl⟩
  · exact ⟨rfl, rfl, rfl, rfl, by decide, by decide, .inr rfl⟩

/-- A jump to the end of the program, and a pc at its end, in RUNNING and in a Step command. -/
theorem witness_NaturalTermination :
    (EnginesTurn (before 0x6000000000000010) (before 0x6000000000000010) ∧
      (before 0x6000000000000010).run = .running ∧
      ∃ t, step (before 0x6000000000000010) = .next t ∧ t.imem.length ≤ t.pc.toNat) ∧
    (let s : State := { before 0 with pc := 16 }
     EnginesTurn s s ∧ s.run = .running ∧ s.imem.length ≤ s.pc.toNat) ∧
    (let s : State := { before 0x6000000000000010 with run := .stepping, sched := [.host .step] }
     s.sched = .host .step :: [] ∧ s.run = .stepping ∧ ∃ t, step s = .next t ∧ t.imem.length ≤ t.pc.toNat) ∧
    (let s : State := { before 0 with pc := 16, run := .stepping, sched := [.host .step] }
     s.sched = .host .step :: [] ∧ s.run = .stepping ∧ s.imem.length ≤ s.pc.toNat) := by
  refine ⟨⟨.inl ⟨rfl, rfl⟩, rfl, _, eq_next_after (by decide +kernel), by decide +kernel⟩,
    ⟨.inl ⟨rfl, rfl⟩, rfl, by decide⟩, ⟨rfl, rfl, _, eq_next_after (by decide +kernel), by decide +kernel⟩,
    rfl, rfl, by decide⟩

theorem witness_StoresWriteOneCell : ({ State.reset with dmem := [(0, 7), (255, 9)] } : State).dmem.wf = true := by
  decide

/-- A state with `a` in R1 and `b` in R2. -/
def operands (a b : Word) : State := { State.reset with regs := { Regs.reset with r1 := a, r2 := b } }

/-- The ends of the range in which the signed difference does not overflow, and the values next to them. -/
theorem witness_BranchAfterCompare :
    (∀ a b : Word, (∃ t, Compared (operands a b) t a b) ∧ ∃ ra, ∃ t, exec (.cmpi ra b) (operands a b) = .next t ∧
      a = (operands a b).reg ra) ∧
    (let d := (minWord : Word).toInt - (0 : Word).toInt
     d ≥ -2147483648 ∧ d < 2147483648) ∧
    (let d := (0x7FFFFFFF : Word).toInt - (0 : Word).toInt
     d ≥ -2147483648 ∧ d < 2147483648) ∧
    (minWord : Word).toInt - (1 : Word).toInt < -2147483648 ∧
    2147483648 ≤ (0x7FFFFFFF : Word).toInt - (minusOne : Word).toInt := by
  refine ⟨fun a b => ⟨⟨_, .inl ⟨.r1, .r2, rfl, rfl, rfl⟩⟩, .r1, _, rfl, rfl⟩, ?_, ?_, ?_, ?_⟩ <;> decide

/-- Room for one entry on a stack of capacity 1, and on an unbounded one; an empty stack, and one of one entry. -/
theorem witness_PushAndPop :
    ({ State.reset with par := { defaultParams with stackCapacity := some 1 } } : State).hasRoom 1 ∧
    State.reset.hasRoom 1 ∧ State.reset.stk = [] ∧ ({ State.reset with stk := [7] } : State).stk = 7 :: [] := by
  refine ⟨?_, (fun n h => by cases h), rfl, rfl⟩
  intro n h
  injection h with h
  simp [← h, State.reset]

/-- As for PUSH and POP. -/
theorem witness_CallAndReturn :
    State.reset.hasRoom 1 ∧ State.reset.stk = [] ∧ ({ State.reset with stk := [7] } : State).stk = 7 :: [] :=
  ⟨(fun n h => by cases h), rfl, rfl⟩

/-- As for PUSH and POP. -/
theorem witness_PushAndPopFlags :
    State.reset.hasRoom 1 ∧ State.reset.stk = [] ∧ ({ State.reset with stk := [7] } : State).stk = 7 :: [] :=
  ⟨(fun n h => by cases h), rfl, rfl⟩

/-- Room for just eight entries, and for any number. -/
theorem witness_PushAllAndPopAll :
    ({ State.reset with par := { defaultParams with stackCapacity := some 8 } } : State).hasRoom 8 ∧
    State.reset.hasRoom 8 := by
  refine ⟨?_, (fun n h => by cases h)⟩
  intro n h
  injection h with h
  simp [← h, State.reset]

/-- A full stack of capacity 0 and 1; no room, and room for seven entries, where PUSHA needs eight. -/
theorem witness_FullStackRefusesPushes :
    (∃ s : State, s.par.stackCapacity = some s.stk.length ∧ s.stk = []) ∧
    (∃ s : State, s.par.stackCapacity = some s.stk.length ∧ s.stk = [7]) ∧
    (∃ s : State, s.par.stackCapacity = some 0 ∧ s.stk.length ≤ 0 ∧ 0 < s.stk.length + 8) ∧
    ∃ s : State, s.par.stackCapacity = some 7 ∧ s.stk.length ≤ 7 ∧ 7 < s.stk.length + 8 := by
  refine ⟨⟨{ State.reset with par := { defaultParams with stackCapacity := some 0 } }, rfl, rfl⟩,
    ⟨{ State.reset with stk := [7], par := { defaultParams with stackCapacity := some 1 } }, rfl, rfl⟩,
    ⟨{ State.reset with par := { defaultParams with stackCapacity := some 0 } }, rfl, by decide, by decide⟩,
    ⟨{ State.reset with par := { defaultParams with stackCapacity := some 7 } }, rfl, by decide, by decide⟩⟩

theorem witness_BalancedStackUse :
    (∃ t, exec .pusha State.reset = .next t) ∧ (∃ t, exec (.push .sp) State.reset = .next t) ∧
    (∃ t, exec .pushf State.reset = .next t ∧
      ({ State.reset with pc := 20, stk := [0], flags := ⟨true, true, true, true, true⟩ } : State).stk = t.stk) ∧
    ∃ t, exec (.call 9) State.reset = .next t ∧ ({ State.reset with pc := 20, stk := [1] } : State).stk = t.stk :=
  ⟨⟨_, rfl⟩, ⟨_, rfl⟩, ⟨_, rfl, rfl⟩, _, rfl, rfl⟩

theorem witness_InterruptFlagAndReturn :
    State.reset.stk = [] ∧ ({ State.reset with stk := [3] } : State).stk = [3] ∧
    ({ State.reset with stk := [3, 12] } : State).stk = 3 :: 12 :: [] := ⟨rfl, rfl, rfl⟩

theorem witness_SoftwareInterruptCompletes :
    (.r1 : Reg) ≠ .r0 ∧ State.reset.par.intMap.lookup 0x99 = none := ⟨by decide, rfl⟩

/-- Numbers next to the ends of the default map's groups, which it does not map. -/
theorem witness_DefaultInterruptMap :
    ∀ n ∈ ([0x04, 0x0F, 0x1A, 0x29, 0x32, 0x42, 0xFFFFFFFF] : List Word),
      n ∉ ([0x00, 0x01, 0x02, 0x03, 0x10, 0x11, 0x12, 0x13, 0x14, 0x15, 0x16, 0x17, 0x18, 0x19, 0x20, 0x21, 0x22, 0x23,
        0x24, 0x25, 0x26, 0x27, 0x28, 0x30, 0x31, 0x40, 0x41] : List Word) := by
  intro n hn
  simp only [List.mem_cons, List.not_mem_nil, or_false] at hn ⊢
  rcases hn with rfl | rfl | rfl | rfl | rfl | rfl | rfl <;> decide

/-- Every service has a number in the default map: the premise of each clause of PrintServices, KeyboardServices,
DrawAndAudioServices, PixelColorAndCursorServices, RectangleServices, LineAndCircleServices and PrintCharOnScreen, at the reset
state, whose framebuffer is canonical. -/
theorem witness_every_service_is_served :
    (∀ svc, ∃ n, Serves State.reset n svc) ∧ State.reset.fb.wf = true := by
  refine ⟨fun svc => ?_, rfl⟩
  cases svc
  exacts [⟨0x00, rfl⟩, ⟨0x01, rfl⟩, ⟨0x02, rfl⟩, ⟨0x03, rfl⟩, ⟨0x10, rfl⟩, ⟨0x11, rfl⟩, ⟨0x12, rfl⟩, ⟨0x13, rfl⟩,
    ⟨0x14, rfl⟩, ⟨0x15, rfl⟩, ⟨0x16, rfl⟩, ⟨0x17, rfl⟩, ⟨0x18, rfl⟩, ⟨0x19, rfl⟩, ⟨0x20, rfl⟩, ⟨0x21, rfl⟩,
    ⟨0x22, rfl⟩, ⟨0x23, rfl⟩, ⟨0x24, rfl⟩, ⟨0x25, rfl⟩, ⟨0x26, rfl⟩, ⟨0x27, rfl⟩, ⟨0x28, rfl⟩, ⟨0x30, rfl⟩,
    ⟨0x31, rfl⟩, ⟨0x40, rfl⟩, ⟨0x41, rfl⟩]

/-- The keyboard queue empty, and not. -/
theorem witness_KeyboardServices :
    Serves State.reset 0x25 .kbdRead ∧ State.reset.kbd.queue = [] ∧
    ({ State.reset with kbd := { Keyboard.reset with queue := [(0x1E, 0x61)] } } : State).kbd.queue =
      (0x1E, 0x61) :: [] := ⟨rfl, rfl, rfl⟩

/-- Points at the screen's corners, on it and off it. -/
theorem witness_PixelColorAndCursorServices :
    OnScreen (0, 0) ∧ OnScreen (127, 63) ∧ ¬ OnScreen (128, 0) ∧ ¬ OnScreen (0, 64) ∧ ¬ OnScreen (-1, 0) := by
  unfold OnScreen
  decide

/-- A vertical, a horizontal and a 45-degree line. -/
theorem witness_LinePixelsKeepDemandedProperties :
    (3 : Int) = 3 ∧ ((7 - 2 : Int)).natAbs = ((0 - 5 : Int)).natAbs ∧
    (4, 2) ∈ linePixels .bresenham 2 2 5 2 := by
  decide +kernel

/-- A point of a circle; radius 0. -/
theorem witness_CirclePixelsKeepDemandedProperties :
    ((10 + 1, 10 + 0) : Point) ∈ circlePixels .midpoint 10 10 1 ∧
    circlePixels .midpoint 10 10 0 = List.replicate 8 (10, 10) := by
  decide +kernel

/-- Two states that agree on what ScreenPutChar reads, and differ elsewhere. -/
theorem witness_PrintCharOnScreen :
    let s := State.reset
    let u : State := { State.reset with pc := 4, regs := { Regs.reset with r5 := 5 } }
    Serves s 0x19 .screenPrintChar ∧ Serves u 0x19 .screenPrintChar ∧ s.fb = u.fb ∧ s.cur = u.cur ∧
      s.color = u.color ∧ s.reg .r0 = u.reg .r0 ∧ (∃ t, exec (.int 0x19) s = .next t) ∧
      ∃ t, exec (.int 0x19) u = .next t := ⟨rfl, rfl, rfl, rfl, rfl, rfl, ⟨_, rfl⟩, _, rfl⟩

/-- A program with the keyboard interrupt enabled, about to take a key event. -/
def keyComing (capacity : Option Nat) (gated : Bool) (i : Bool) : State :=
  { before 0 with
    sched := [.host (.key 0x1E 0x61)], flags := { z := true, c := false, n := false, v := true, i := i },
    kbd := { Keyboard.reset with enabled := true, handler := 9, handlerValid := true },
    par := { defaultParams with stackCapacity := capacity, kbdGatedByIf := gated } }

/-- An event that does not vector (not gated open), one that vectors with room for just two entries (not gated, and gated with F.I
set), and one with room for no entry or for one. -/
theorem witness_KeyEvent :
    (keyComing none true false).sched = .host (.key 0x1E 0x61) :: [] ∧ ¬ Vectors (keyComing none true false) ∧
    Vectors (keyComing (some 2) false false) ∧ (keyComing (some 2) false false).hasRoom 2 ∧
    Vectors (keyComing none true true) ∧
    (∀ n ∈ [0, 1], Vectors (keyComing (some n) false false) ∧
      (keyComing (some n) false false).par.stackCapacity = some n ∧
      (keyComing (some n) false false).stk.length ≤ n ∧ n < (keyComing (some n) false false).stk.length + 2) := by
  have vectors : ∀ c, Vectors (keyComing c false false) := fun c => ⟨rfl, rfl, .inl rfl, .inl rfl⟩
  refine ⟨rfl, ?_, vectors _, ?_, ⟨rfl, rfl, .inl rfl, .inr rfl⟩, ?_⟩
  · rintro ⟨_, _, _, h | h⟩ <;> cases h
  · intro n h
    injection h with h
    simp [← h, keyComing, before, State.reset]
  · intro n hn
    refine ⟨vectors _, rfl, Nat.zero_le n, ?_⟩
    simp only [List.mem_cons, List.not_mem_nil, or_false] at hn
    show n < 0 + 2
    omega

theorem witness_IretUndoesKeyboardEntry :
    (keyComing none false false).sched = .host (.key 0x1E 0x61) :: [] ∧ Vectors (keyComing none false false) ∧
    ∃ t, step (keyComing none false false) = .next t ∧
      ({ State.reset with stk := [9, 0] } : State).stk = t.stk :=
  ⟨rfl, ⟨rfl, rfl, .inl rfl, .inl rfl⟩, _, eq_next_after (by decide +kernel), by decide +kernel⟩

theorem witness_FlagsWrittenOnlyBy :
    (∃ t, exec (.inc .r0) State.reset = .next t) ∧ writesC (.inc .r0) = false ∧ writesV (.inc .r0) = false ∧
    writesI (.inc .r0) = false ∧ (∃ t, exec (.mov .r0 .r1) State.reset = .next t) ∧
    keepsZN (.mov .r0 .r1) = true := ⟨⟨_, rfl⟩, rfl, rfl, rfl, ⟨_, rfl⟩, rfl⟩

theorem witness_RegistersAndPcWrittenOnlyBy :
    (∃ t, exec (.call 9) State.reset = .next t) ∧ ¬ mayWrite (.call 9) .lr ∧ setsPc (.mov .r0 .r1) = false ∧
    ∃ t, exec .halt State.reset = .next t := by
  refine ⟨⟨_, rfl⟩, ?_, rfl, _, rfl⟩
  show ¬ Reg.lr = Reg.sp
  decide

theorem witness_StorageWrittenOnlyBy :
    (∃ t, exec (.ldr .r0 3) State.reset = .next t) ∧ writesDmem (.ldr .r0 3) = false ∧
    writesStk (.ldr .r0 3) = false ∧ isInt (.ldr .r0 3) = false ∧ (.ldr .r0 3 : Instr) ≠ .halt ∧
    (.ldr .r0 3 : Instr) ≠ .debug ∧ mayPutOut (.mov .r0 .r1) = false := by
  refine ⟨⟨_, rfl⟩, rfl, rfl, rfl, ?_, ?_, rfl⟩ <;> simp

theorem witness_StackCounterFollowsDepth :
    (∃ t, exec (.push .r1) State.reset = .next t) ∧ ¬ namesSp (.push .r1) ∧
    (∃ t, exec (.pop .r1) State.reset = .next t) ∧ ¬ namesSp (.pop .r1) := by
  refine ⟨⟨_, rfl⟩, fun h => h, ⟨_, rfl⟩, ?_⟩
  show ¬ Reg.r1 = Reg.sp
  decide

/-- A Run that loads a program; a HALT; a Stop; a Reset. -/
theorem witness_RunAndProgramChangeOnlyAsAllowed :
    (∃ t, step { State.reset with sched := [.host (.run [0])] } = .next t ∧ t.imem ≠ State.reset.imem ∧
      t.run ≠ State.reset.run) ∧
    (∃ t, step (before 0x0100000000000000) = .next t ∧ t.run ≠ (before 0x0100000000000000).run) ∧
    (∃ t, step { before 0 with sched := [.host .stop] } = .next t ∧ t.run ≠ (before 0).run) ∧
    ∃ t, step { before 0 with sched := [.host .reset] } = .next t ∧ t.run ≠ (before 0).run := by
  refine ⟨⟨_, eq_next_after (by decide +kernel), ?_, ?_⟩, ⟨_, eq_next_after (by decide +kernel), ?_⟩,
    ⟨_, eq_next_after (by decide +kernel), ?_⟩, _, eq_next_after (by decide +kernel), ?_⟩ <;> decide +kernel

/-- A running program meets the invariant, and its step answers. -/
theorem witness_StepKeepsInvariant :
    (before 0x2E00000000000000).Inv ∧ ∃ t, step (before 0x2E00000000000000) = .next t := by
  refine ⟨⟨by decide, by decide, by decide, by decide, by decide, (fun _ => rfl), by decide, (fun n h => by cases h),
    (fun _ => List.cons_ne_nil _ _), (fun h => by cases h), (fun h => by cases h)⟩, _,
    eq_next_after (by decide +kernel)⟩

/-- The default capacity, and a schedule that loads a program and plays with it. -/
theorem witness_EngineNeverStops :
    let s : State := { State.reset with sched := [.host (.run [0]), .engine, .host (.key 1 2), .host .stop] }
    s.par.stackCapacity = none ∧ ∀ x ∈ s.sched, x.wellSized := by
  refine ⟨rfl, ?_⟩
  intro x hx
  simp only [List.mem_cons, List.not_mem_nil, or_false] at hx
  rcases hx with rfl | rfl | rfl | rfl <;> simp [Turn.wellSized]

/-- A program that runs two turns; a push onto a full stack, which is refused. -/
theorem witness_StepModeEqualsRunMode :
    (before 0x2E00000000000000).run = .running ∧ (before 0x2E00000000000000).sched = [] ∧
    (∃ t, turns 2 (before 0x2E00000000000000) = .next t) ∧
    (let s : State := { before 0x7000000000000000 with par := { defaultParams with stackCapacity := some 0 } }
     s.run = .running ∧ s.sched = [] ∧ turns 1 s = .refused .stackFull) :=
  ⟨rfl, rfl, ⟨_, rfl⟩, rfl, rfl, rfl⟩

end Sys2Proof.Tests
end

section
/-! SUPPORT. The footprint of every instruction, said once: what it may write, composed of one licence per state
operation. The statements on who writes what are read off it. -/

namespace Sys2Proof.Proofs

open Sys2Proof Sys2Proof.Machine Sys2Proof.Claims

/-! ## Footprints -/

variable {i : Instr} {s t : State}

/-- The flags `g` differ from `f` only in what `i` may write (10_state.md R111-R115). -/
structure FlagsWithin (i : Instr) (f g : Flags) : Prop where
  carry : writesC i = false → g.c = f.c
  overflow : writesV i = false → g.v = f.v
  interrupt : writesI i = false → g.i = f.i
  zeroNegative : keepsZN i = true → g.z = f.z ∧ g.n = f.n

/-- The state `t` differs from `s` only in what `i` may write, and not in pc. -/
structure Within (i : Instr) (s t : State) : Prop where
  pc : t.pc = s.pc
  flags : FlagsWithin i s.flags t.flags
  reg : ∀ q, ¬ mayWrite i q → t.reg q = s.reg q
  imem : t.imem = s.imem
  par : t.par = s.par
  sched : t.sched = s.sched
  advancing : t.advancing = s.advancing
  dmem : writesDmem i = false → t.dmem = s.dmem
  stk : writesStk i = false → t.stk = s.stk
  devices : isInt i = false →
    t.kbd = s.kbd ∧ t.fb = s.fb ∧ t.cur = s.cur ∧ t.color = s.color ∧ t.audio = s.audio ∧ t.draws = s.draws
  run : i ≠ .halt → t.run = s.run
  trace : i ≠ .debug → t.trace = s.trace
  out : mayPutOut i = false → t.out = s.out

/-- What executing `i` from `s` can answer: a state within its footprint in which pc is set, to pc + 1 but for the
instructions of R405; or the refusal of a push, where the stack's capacity is finite (R124). -/
inductive Obeys (i : Instr) (s : State) : Result → Prop
  | next {u : State} {p : Word} (hu : Within i s u) (hp : setsPc i = false → p = s.pc + 1) :
      Obeys i s (.next (u.setPc p))
  | full (h : s.par.stackCapacity ≠ none) : Obeys i s (.refused .stackFull)

/-! ## Licences: a write that `i` may make keeps within its footprint -/

section
variable {f g : Flags}

theorem FlagsWithin.refl : FlagsWithin i f f := ⟨fun _ => rfl, fun _ => rfl, fun _ => rfl, fun _ => ⟨rfl, rfl⟩⟩

theorem FlagsWithin.setZN {r : Word} (h : FlagsWithin i f g) (hi : keepsZN i = false) : FlagsWithin i f (g.setZN r) :=
  { h with zeroNegative := by simp [hi] }

theorem FlagsWithin.setC {b : Bool} (h : FlagsWithin i f g) (hi : writesC i = true) : FlagsWithin i f (g.setC b) :=
  { h with carry := by simp [hi] }

theorem FlagsWithin.setV {b : Bool} (h : FlagsWithin i f g) (hi : writesV i = true) : FlagsWithin i f (g.setV b) :=
  { h with overflow := by simp [hi] }

theorem FlagsWithin.setI {b : Bool} (h : FlagsWithin i f g) (hi : writesI i = true) : FlagsWithin i f (g.setI b) :=
  { h with interrupt := by simp [hi] }

theorem FlagsWithin.unpack {x : Word} (h : FlagsWithin i f g) (hc : writesC i = true) (hv : writesV i = true)
    (hz : keepsZN i = false) : FlagsWithin i f (g.unpack x) :=
  { h with carry := by simp [hc], overflow := by simp [hv], zeroNegative := by simp [hz] }

end

theorem Within.refl : Within i s s where
  pc := rfl
  flags := .refl
  reg := fun _ _ => rfl
  imem := rfl
  par := rfl
  sched := rfl
  advancing := rfl
  dmem := fun _ => rfl
  stk := fun _ => rfl
  devices := fun _ => ⟨rfl, rfl, rfl, rfl, rfl, rfl⟩
  run := fun _ => rfl
  trace := fun _ => rfl
  out := fun _ => rfl

theorem Within.setReg {r : Reg} {v : Word} (h : Within i s t) (hi : mayWrite i r) : Within i s (t.setReg r v) :=
  { h with
    reg := fun q hq => by
      have hqr : q ≠ r := fun e => hq (e ▸ hi)
      rw [State.setReg_reg_other _ _ hqr, h.reg q hq] }

theorem Within.setFlags {f : Flags} (h : Within i s t) (hf : FlagsWithin i s.flags f) : Within i s (t.setFlags f) :=
  { h with flags := hf }

theorem Within.setDmem {m : Memory} (h : Within i s t) (hi : writesDmem i = true) : Within i s (t.setDmem m) :=
  { h with dmem := by simp [hi] }

theorem Within.setStk {l : List Word} (h : Within i s t) (hi : writesStk i = true) : Within i s (t.setStk l) :=
  { h with stk := by simp [hi] }

theorem Within.setKbd {k : Keyboard} (h : Within i s t) (hi : isInt i = true) : Within i s (t.setKbd k) :=
  { h with devices := by simp [hi] }

theorem Within.setFb {m : Memory} (h : Within i s t) (hi : isInt i = true) : Within i s (t.setFb m) :=
  { h with devices := by simp [hi] }

theorem Within.setCur {c : Cursor} (h : Within i s t) (hi : isInt i = true) : Within i s (t.setCur c) :=
  { h with devices := by simp [hi] }

theorem Within.setColor {c : Word} (h : Within i s t) (hi : isInt i = true) : Within i s (t.setColor c) :=
  { h with devices := by simp [hi] }

theorem Within.emitAudio {r : AudioRecord} (h : Within i s t) (hi : isInt i = true) : Within i s (t.emitAudio r) :=
  { h with devices := by simp [hi] }

theorem Within.drawn (h : Within i s t) (hi : isInt i = true) : Within i s t.drawn :=
  { h with devices := by simp [hi] }

theorem Within.emit {r : OutRecord} (h : Within i s t) (hi : mayPutOut i = true) : Within i s (t.emit r) :=
  { h with out := by simp [hi] }

theorem Within.pushed {v : Word} (h : Within i s t) (hs : writesStk i = true) (hr : mayWrite i .sp) :
    Within i s (t.pushed v) := (h.setStk hs).setReg hr

theorem Within.popped {v : Word} {u : State} (h : Within i s t) (hp : pop t = some (v, u)) (hs : writesStk i = true)
    (hr : mayWrite i .sp) : Within i s u := by
  rcases pop_cases t with ⟨_, hn⟩ | ⟨w, rest, _, hw⟩
  · simp [hn] at hp
  · have hu : u = (t.setStk rest).setReg .sp (t.reg .sp + 1) := by simp_all [State.setStk, State.setReg]
    exact hu ▸ (h.setStk hs).setReg hr

/-! ## Answers -/

theorem Obeys.advance {u : State} (hu : Within i s u) : Obeys i s (.next u.advance) :=
  .next hu fun _ => by rw [hu.pc]

theorem Obeys.setPc {u : State} {p : Word} (hu : Within i s u) (hi : setsPc i = true) : Obeys i s (.next (u.setPc p)) :=
  .next hu (by simp [hi])

theorem Obeys.kept {u : State} (hu : Within i s u) (hi : setsPc i = true) : Obeys i s (.next u) :=
  .next (p := u.pc) hu (by simp [hi])

/-- A push, then what `k` does to the state it leaves. -/
theorem Obeys.push {v : Word} {k : State → Result} (h : Obeys i s (k (s.pushed v))) :
    Obeys i s (andThen (push v s) k) := by
  cases hf : s.stackFull with
  | true =>
    have hp : Machine.push v s = .refused .stackFull := push_eq_refused.2 ⟨hf, rfl⟩
    rw [hp]
    exact .full (by simp [(stackFull_eq_true s).1 hf])
  | false =>
    have hp : Machine.push v s = .next (s.pushed v) := push_eq_next.2 ⟨hf, rfl⟩
    rwa [hp]

/-! ## Data movement, arithmetic and logic -/

section
variable {rd : Reg} {a b v : Word}

theorem writeReg_obeys (h : Within i s t) (hr : mayWrite i rd) : Obeys i s (writeReg rd v t) := .advance (h.setReg hr)

theorem reportRange_within (ho : mayPutOut i = true) : Within i s (reportRange a s) := by
  unfold reportRange
  split
  · exact Within.refl.emit ho
  · exact .refl

theorem afterRead_within (ho : mayPutOut i = true) : Within i s (afterRead a s) := by
  unfold afterRead
  split
  · exact .refl
  · exact reportRange_within ho

theorem memWrite_within (ho : mayPutOut i = true) (hd : writesDmem i = true) : Within i s (memWrite a v s) := by
  unfold memWrite
  split
  · exact Within.refl.setDmem hd
  · exact reportRange_within ho

theorem finish_obeys {f : Flags} (hr : mayWrite i rd) (hz : keepsZN i = false) (hf : FlagsWithin i s.flags f)
    (ht : Within i s t) : Obeys i s (.next (finish rd v f t)) :=
  .advance ((ht.setReg hr).setFlags (hf.setZN hz))

theorem addOp_obeys (hr : mayWrite i rd) (hz : keepsZN i = false) (hc : writesC i = true) : Obeys i s (addOp rd a b s) :=
  finish_obeys hr hz (.setC .refl hc) .refl

theorem subOp_obeys (hr : mayWrite i rd) (hz : keepsZN i = false) (hc : writesC i = true) : Obeys i s (subOp rd a b s) :=
  finish_obeys hr hz (.setC .refl hc) .refl

theorem mulOp_obeys (hr : mayWrite i rd) (hz : keepsZN i = false) (hv : writesV i = true) : Obeys i s (mulOp rd a b s) :=
  finish_obeys hr hz (.setV .refl hv) .refl

theorem reportDivZero_within (ho : mayPutOut i = true) : Within i s (reportDivZero s) := by
  unfold reportDivZero
  split
  · exact Within.refl.emit ho
  · exact .refl

theorem divByZero_obeys (hr : mayWrite i rd) (hz : keepsZN i = false) (hv : writesV i = true) (ho : mayPutOut i = true) :
    Obeys i s (.next (divByZero rd s)) := by
  unfold divByZero
  split
  · exact finish_obeys hr hz (.setV .refl hv) (reportDivZero_within ho)
  · exact .advance ((reportDivZero_within ho).setReg hr)

theorem divOp_obeys (hr : mayWrite i rd) (hz : keepsZN i = false) (hv : writesV i = true) (ho : mayPutOut i = true) :
    Obeys i s (divOp rd a b s) := by
  unfold divOp
  split
  · exact divByZero_obeys hr hz hv ho
  · split <;> exact finish_obeys hr hz (.setV .refl hv) .refl

theorem modOp_obeys (hr : mayWrite i rd) (hz : keepsZN i = false) (hv : writesV i = true) (ho : mayPutOut i = true) :
    Obeys i s (modOp rd a b s) := by
  unfold modOp
  split
  · exact divByZero_obeys hr hz hv ho
  · exact finish_obeys hr hz (.setV .refl hv) .refl

theorem powOp_obeys (hr : mayWrite i rd) (hz : keepsZN i = false) (hv : writesV i = true) : Obeys i s (powOp rd a b s) := by
  unfold powOp
  split <;> exact finish_obeys hr hz (.setV .refl hv) .refl

theorem logicOp_obeys (hr : mayWrite i rd) (hz : keepsZN i = false) : Obeys i s (logicOp rd v s) :=
  finish_obeys hr hz .refl .refl

theorem cmpOp_obeys (hz : keepsZN i = false) (hc : writesC i = true) : Obeys i s (cmpOp a b s) :=
  .advance (Within.refl.setFlags ((FlagsWithin.refl.setC hc).setZN hz))

theorem testOp_obeys (hz : keepsZN i = false) (hc : writesC i = true) : Obeys i s (testOp a b s) :=
  .advance (Within.refl.setFlags ((FlagsWithin.refl.setC hc).setZN hz))

theorem branchIf_obeys {taken : Bool} (hp : setsPc i = true) : Obeys i s (branchIf taken a s) := by
  cases taken
  · exact .advance .refl
  · exact .setPc .refl hp

end

/-! ## The stack -/

theorem hasRoom_of_unbounded (k : Nat) (h : s.par.stackCapacity = none) : s.hasRoom k := by
  intro n hn
  simp [h] at hn

theorem push_of_hasRoom (v : Word) {k : Nat} (h : s.hasRoom (k + 1)) : push v s = .next (s.pushed v) := by
  refine push_eq_next.2 ⟨(stackFull_eq_false s).2 fun hc => ?_, rfl⟩
  have := h _ hc
  omega

theorem pushed_hasRoom {v : Word} {k : Nat} (h : s.hasRoom (k + 1)) : (s.pushed v).hasRoom k := by
  intro n hn
  have hs := h n hn
  have hlen : (s.pushed v).stk.length = s.stk.length + 1 := rfl
  omega

/-- Pushes for which there is room are not refused (R123, R124). -/
theorem pushAll_of_hasRoom (vs : List Word) (h : s.hasRoom vs.length) : ∃ t, pushAll vs s = .next t := by
  induction vs generalizing s with
  | nil => exact ⟨s, rfl⟩
  | cons v vs ih =>
    rw [pushAll, push_of_hasRoom v h, andThen_next]
    exact ih (pushed_hasRoom h)

theorem pushAll_within {vs : List Word} (h : pushAll vs s = .next t) (hs : writesStk i = true) (hr : mayWrite i .sp) :
    Within i s t := by
  have ht : t = (s.setStk (vs.reverse ++ s.stk)).setReg .sp (s.reg .sp - BitVec.ofNat 32 vs.length) := pushAll_eq_next h
  exact ht ▸ (Within.refl.setStk hs).setReg hr

theorem popEach_within {rs : List Reg} (h : Within i s t) (hs : writesStk i = true) (hr : mayWrite i .sp)
    (hrs : ∀ r ∈ rs, mayWrite i r) : Within i s (popEach rs t) := by
  induction rs generalizing t with
  | nil => exact h
  | cons r rs ih =>
    have hrest : ∀ q ∈ rs, mayWrite i q := fun q hq => hrs q (List.mem_cons_of_mem _ hq)
    unfold popEach
    split
    · rename_i v u hp
      exact ih ((h.popped hp hs hr).setReg (hrs r List.mem_cons_self)) hrest
    · exact ih h hrest

theorem popFlags_within (hs : writesStk i = true) (hr : mayWrite i .sp) (hc : writesC i = true) (hv : writesV i = true)
    (hz : keepsZN i = false) : Within i s (popFlags s) := by
  unfold popFlags
  split
  · rename_i f u hp
    have hu : Within i s u := Within.refl.popped hp hs hr
    exact hu.setFlags (hu.flags.unpack hc hv hz)
  · exact .refl

/-- A pop into pc leaves pc aside as it was. -/
theorem popPc_within (h : Within i s t) (hs : writesStk i = true) (hr : mayWrite i .sp) :
    ∃ u p, popPc t = u.setPc p ∧ Within i s u := by
  unfold popPc
  split
  · rename_i v u hp
    exact ⟨u, v, rfl, h.popped hp hs hr⟩
  · exact ⟨t, t.pc + 1, rfl, h⟩

theorem execRet_obeys : Obeys .ret s (execRet s) := by
  obtain ⟨u, p, hu, hw⟩ := popPc_within (i := .ret) (s := s) .refl rfl rfl
  rw [execRet, hu]
  exact .setPc hw rfl

theorem execIret_obeys : Obeys .iret s (execIret s) := by
  have hf : Within .iret s (popFlags s) := popFlags_within rfl rfl rfl rfl rfl
  obtain ⟨u, p, hu, hw⟩ := popPc_within hf rfl rfl
  simp only [execIret, interruptReturn, hu]
  exact .setPc (hw.setFlags (hw.flags.setI rfl)) rfl

theorem execPop_obeys (rd : Reg) : Obeys (.pop rd) s (execPop rd s) := by
  unfold execPop
  split
  · rename_i v u hp
    have hsp : mayWrite (.pop rd) .sp := Or.inr rfl
    have hrd : mayWrite (.pop rd) rd := Or.inl rfl
    exact .advance ((Within.refl.popped hp rfl hsp).setReg hrd)
  · exact .advance .refl

theorem execPusha_obeys : Obeys .pusha s (execPusha s) := by
  unfold execPusha
  rcases pushAll_cases (generalRegs.map s.reg) s with ⟨t, ht⟩ | hfull
  · rw [ht]
    exact .advance (pushAll_within ht rfl rfl)
  · rw [hfull]
    refine .full fun hn => ?_
    obtain ⟨t, ht⟩ := pushAll_of_hasRoom (generalRegs.map s.reg) (hasRoom_of_unbounded _ hn)
    rw [ht] at hfull
    cases hfull

/-! ## Interrupts -/

theorem performService_within (svc : Service) (n : Word) : Within (.int n) s (performService svc s) := by
  have hr : mayWrite (.int n) .r0 := rfl
  cases svc with
  | printChar | printNum | printHex | printBin => exact Within.refl.emit rfl
  | screenClear | screenSetPixel | screenDrawLine | screenDrawRect | screenFillRect => exact Within.refl.setFb rfl
  | screenGetPixel | kbdScancode | kbdAscii | kbdStatus | kbdBufsize => exact Within.refl.setReg hr
  | screenSetColor => exact Within.refl.setColor rfl
  | screenDrawCircle =>
    show Within _ _ (screenDrawCircle s)
    unfold screenDrawCircle
    split
    · exact Within.refl.setFb rfl
    · exact .refl
  | screenSetCursor => exact Within.refl.setCur rfl
  | screenPrintChar => exact (Within.refl.setFb rfl).setCur rfl
  | kbdEnable | kbdDisable | kbdSetHandler | kbdClear => exact Within.refl.setKbd rfl
  | kbdRead =>
    show Within _ _ (kbdRead s)
    unfold kbdRead
    split
    · exact (Within.refl.setReg hr).setKbd rfl
    · exact Within.refl.setReg hr
  | random | getTime => exact (Within.refl.setReg hr).drawn rfl
  | beep | playTone => exact Within.refl.emitAudio rfl

theorem execInt_obeys (n : Word) : Obeys (.int n) s (execInt n s) := by
  unfold execInt
  split
  · exact .advance (performService_within _ n)
  · exact .advance (Within.refl.emit rfl)

/-! ## Every instruction -/

theorem execReset_obeys : Obeys .reset s (execReset s) := by
  refine .advance { Within.refl (i := .reset) (s := s) with
    flags := ?_, reg := fun q hq => absurd trivial hq, dmem := nofun, stk := nofun }
  exact ⟨nofun, nofun, nofun, nofun⟩

theorem execDebug_obeys : Obeys .debug s (execDebug s) :=
  .advance { Within.refl (i := .debug) (s := s) with trace := fun h => absurd rfl h }

theorem execHalt_obeys : Obeys .halt s (execHalt s) :=
  .kept { Within.refl (i := .halt) (s := s) with run := fun h => absurd rfl h, out := nofun } rfl

/-- Every instruction answers within its footprint (10_state.md R102-R115, 20_memory.md R200, 40_execution_cycle.md R405). -/
theorem exec_obeys (i : Instr) (s : State) : Obeys i s (exec i s) := by
  cases i with
  | nop => exact .advance .refl
  | halt => exact execHalt_obeys
  | reset => exact execReset_obeys
  | debug => exact execDebug_obeys
  | load | mov | lea => exact writeReg_obeys .refl rfl
  | ldr | ldri => exact writeReg_obeys (afterRead_within rfl) rfl
  | str | stri => exact .advance (memWrite_within rfl rfl)
  | swap ra rb =>
    have ha : mayWrite (.swap ra rb) ra := Or.inl rfl
    have hb : mayWrite (.swap ra rb) rb := Or.inr rfl
    exact .advance ((Within.refl.setReg ha).setReg hb)
  | add | addi => exact addOp_obeys rfl rfl rfl
  | sub | subi => exact subOp_obeys rfl rfl rfl
  | mul | muli => exact mulOp_obeys rfl rfl rfl
  | div | divi => exact divOp_obeys rfl rfl rfl rfl
  | mod | modi => exact modOp_obeys rfl rfl rfl rfl
  | pow => exact powOp_obeys rfl rfl rfl
  | sqrt | inc | dec => exact finish_obeys rfl rfl .refl .refl
  | abs | neg => exact finish_obeys rfl rfl (.setV .refl rfl) .refl
  | and | or | xor | not | nand | nor | shl | shr | rol | ror | setbit | clrbit | togbit | popcnt | clz =>
    exact logicOp_obeys rfl rfl
  | testbit => exact .advance (Within.refl.setFlags (.setZN .refl rfl))
  | cmp | cmpi => exact cmpOp_obeys rfl rfl
  | test | testi => exact testOp_obeys rfl rfl
  | jmp => exact .setPc .refl rfl
  | jeq | jz | jne | jnz | jlt | jgt | jle | jge | jc | jnc | jo | jno => exact branchIf_obeys rfl
  | push | pushf => exact .push (.advance (Within.refl.pushed rfl rfl))
  | call => exact .push (.setPc (Within.refl.pushed rfl rfl) rfl)
  | pop rd => exact execPop_obeys rd
  | ret => exact execRet_obeys
  | pusha => exact execPusha_obeys
  | popa =>
    have hrs : ∀ r ∈ generalRegs.reverse, r ≠ .lr := by decide
    exact .advance (popEach_within .refl rfl nofun hrs)
  | popf => exact .advance (popFlags_within rfl rfl rfl rfl rfl)
  | int n => exact execInt_obeys n
  | cli | sti => exact .advance (Within.refl.setFlags (.setI .refl rfl))
  | iret => exact execIret_obeys

/-- An instruction that answers left a state within its footprint, and then set pc. -/
theorem exec_eq_next (h : exec i s = .next t) :
    ∃ u p, t = u.setPc p ∧ Within i s u ∧ (setsPc i = false → p = s.pc + 1) := by
  have ho := exec_obeys i s
  rw [h] at ho
  obtain ⟨hu, hp⟩ := ho
  exact ⟨_, _, rfl, hu, hp⟩

/-- With a stack of unbounded capacity every instruction answers (R123). -/
theorem exec_of_unbounded (i : Instr) (h : s.par.stackCapacity = none) : ∃ t, exec i s = .next t := by
  have ho := exec_obeys i s
  generalize exec i s = o at ho
  cases ho with
  | next hu hp => exact ⟨_, rfl⟩
  | full hn => exact absurd h hn

end Sys2Proof.Proofs

namespace Sys2Proof.Settled

open Sys2Proof Sys2Proof.Machine Sys2Proof.Claims Sys2Proof.Proofs

/-- Settles O51: the flags of every instruction's footprint. -/
theorem flagsWrittenOnlyBy : Obligations.FlagsWrittenOnlyBy := by
  intro i s t h
  obtain ⟨u, p, rfl, hu, _⟩ := exec_eq_next h
  exact ⟨hu.flags.carry, hu.flags.overflow, hu.flags.interrupt, hu.flags.zeroNegative⟩

/-- Settles O52: the registers and pc of every instruction's footprint; HALT's pc by its meaning. -/
theorem registersAndPcWrittenOnlyBy : Obligations.RegistersAndPcWrittenOnlyBy := by
  intro i s t h
  have hhalt : i = .halt → t.pc = s.pc := by
    rintro rfl
    injection h with h
    rw [← h]
    rfl
  obtain ⟨u, p, rfl, hu, hp⟩ := exec_eq_next h
  exact ⟨hu.reg, hp, hhalt⟩

/-- Settles O53: the storage and the ports of every instruction's footprint. -/
theorem storageWrittenOnlyBy : Obligations.StorageWrittenOnlyBy := by
  intro i s t h
  obtain ⟨u, p, rfl, hu, _⟩ := exec_eq_next h
  exact ⟨hu.imem, hu.par, hu.sched, hu.advancing, hu.dmem, hu.stk, hu.devices, hu.run, hu.trace, hu.out⟩

end Sys2Proof.Settled
end

section
/-! SUPPORT. The stack: what a full one refuses, the count that SP keeps of it, and the key event's two pushes. -/

namespace Sys2Proof.Proofs

open Sys2Proof Sys2Proof.Machine Sys2Proof.Claims

variable {i : Instr} {s t u : State}

/-! ## A full stack -/

theorem push_full (v : Word) (h : s.par.stackCapacity = some s.stk.length) : push v s = .refused .stackFull :=
  push_eq_refused.2 ⟨(stackFull_eq_true s).2 h, rfl⟩

theorem push_of_lt (v : Word) {n : Nat} (hn : s.par.stackCapacity = some n) (h : s.stk.length < n) :
    push v s = .next (s.pushed v) :=
  push_eq_next.2 ⟨by simp [State.stackFull, hn]; omega, rfl⟩

/-- Pushes for which the room is missing are refused, as a whole (R905). -/
theorem pushAll_full (vs : List Word) {n : Nat} (hn : s.par.stackCapacity = some n) (hle : s.stk.length ≤ n)
    (hlt : n < s.stk.length + vs.length) : pushAll vs s = .refused .stackFull := by
  induction vs generalizing s with
  | nil => exact absurd hlt (by simpa using hle)
  | cons v vs ih =>
    rcases Nat.eq_or_lt_of_le hle with heq | hroom
    · rw [pushAll, push_full v (heq ▸ hn), andThen_refused]
    · have hlen : (s.pushed v).stk.length = s.stk.length + 1 := rfl
      rw [List.length_cons] at hlt
      rw [pushAll, push_of_lt v hn hroom, andThen_next]
      exact ih (s := s.pushed v) hn (by omega) (by omega)

/-! ## The counter SP -/

/-- SP plus the depth of the stack (R102). -/
def counter (s : State) : Word := s.reg .sp + BitVec.ofNat 32 s.stk.length

/-- Beside the stack, SP is written by name only. -/
theorem not_mayWrite_sp (hs : writesStk i = false) (hn : ¬ namesSp i) : ¬ mayWrite i .sp := by
  cases i with
  | push | pop | call | ret | pusha | popa | pushf | popf | iret | reset => exact Bool.noConfusion hs
  | _ => exact hn

theorem counter_setReg {r : Reg} (v : Word) (h : r ≠ .sp) : counter (s.setReg r v) = counter s := by
  simp [counter, State.setReg_reg, h.symm]

theorem counter_pushed (v : Word) : counter (s.pushed v) = counter s := by
  have hsp : (s.pushed v).reg .sp = s.reg .sp - 1 := Regs.read_write_same s.regs .sp _
  have hlen : (s.pushed v).stk.length = s.stk.length + 1 := rfl
  rw [counter, counter, hsp, hlen, BitVec.ofNat_add]
  bv_omega

theorem counter_of_push {v : Word} (h : push v s = .next t) : counter t = counter s := by
  obtain ⟨_, rfl⟩ := push_eq_next.1 h
  exact counter_pushed v

theorem counter_of_pop {v : Word} (h : pop s = some (v, t)) : counter t = counter s := by
  rcases pop_cases s with ⟨_, hn⟩ | ⟨w, rest, hs, hw⟩
  · simp [hn] at h
  · obtain ⟨_, rfl⟩ : w = v ∧ _ = t := by simpa [hw] using h
    simp only [counter, State.reg, Regs.read_write_same, hs, List.length_cons, BitVec.ofNat_add]
    bv_omega

theorem counter_of_pushAll {vs : List Word} (h : pushAll vs s = .next t) : counter t = counter s := by
  induction vs generalizing s with
  | nil => injection h with h; rw [h]
  | cons v vs ih =>
    obtain ⟨u, hu, ht⟩ := andThen_eq_next.1 h
    rw [ih ht, counter_of_push hu]

theorem counter_popEach {rs : List Reg} (h : ∀ r ∈ rs, r ≠ .sp) : counter (popEach rs s) = counter s := by
  induction rs generalizing s with
  | nil => rfl
  | cons r rs ih =>
    have hrest : ∀ q ∈ rs, q ≠ .sp := fun q hq => h q (List.mem_cons_of_mem _ hq)
    unfold popEach
    split
    · rename_i v u hp
      rw [ih hrest, counter_setReg v (h r List.mem_cons_self), counter_of_pop hp]
    · exact ih hrest

theorem counter_popFlags (s : State) : counter (popFlags s) = counter s := by
  unfold popFlags
  split
  · rename_i f u hp
    exact (counter_of_pop hp : counter u = _)
  · rfl

theorem counter_popPc (s : State) : counter (popPc s) = counter s := by
  unfold popPc
  split
  · rename_i v u hp
    exact (counter_of_pop hp : counter u = _)
  · rfl

theorem counter_execPop {rd : Reg} (hrd : rd ≠ .sp) (h : execPop rd s = .next t) : counter t = counter s := by
  unfold execPop at h
  split at h
  · rename_i v u hp
    injection h with h
    calc counter t = counter (u.setReg rd v) := by rw [← h]; rfl
      _ = counter u := counter_setReg v hrd
      _ = counter s := counter_of_pop hp
  · injection h with h
    rw [← h]
    rfl

/-- A push, then a change that leaves SP and the stack alone. -/
theorem counter_push_then {v : Word} {k : State → State} (hk : ∀ u, counter (k u) = counter u)
    (h : andThen (push v s) (fun u => .next (k u)) = .next t) : counter t = counter s := by
  obtain ⟨u, hu, ht⟩ := andThen_eq_next.1 h
  injection ht with ht
  rw [← ht, hk, counter_of_push hu]

/-- The counter under the instructions that reach the stack. -/
theorem counter_exec_stack (hs : writesStk i = true) (hn : ¬ namesSp i) (h : exec i s = .next t) :
    counter t = counter s := by
  cases i with
  | push r => exact counter_push_then (v := s.reg r) (k := State.advance) (fun _ => rfl) h
  | pushf => exact counter_push_then (v := s.flags.pack) (k := State.advance) (fun _ => rfl) h
  | call x => exact counter_push_then (v := s.pc + 1) (k := fun u => u.setPc x) (fun _ => rfl) h
  | pusha =>
    obtain ⟨u, hu, ht⟩ := andThen_eq_next.1 h
    injection ht with ht
    rw [← counter_of_pushAll hu, ← ht]
    rfl
  | pop rd => exact counter_execPop hn h
  | popa =>
    injection h with h
    rw [← h]
    exact counter_popEach (rs := generalRegs.reverse) (by decide)
  | popf =>
    injection h with h
    rw [← h]
    exact counter_popFlags s
  | ret =>
    injection h with h
    rw [← h, counter_popPc]
  | iret =>
    injection h with h
    calc counter t = counter (popPc (popFlags s)) := by rw [← h]; rfl
      _ = counter s := by rw [counter_popPc, counter_popFlags]
  | reset => exact absurd trivial hn
  | _ => exact Bool.noConfusion hs

/-- The counter under every other instruction: neither SP nor the stack is in its footprint. -/
theorem counter_exec_other (hs : writesStk i = false) (hn : ¬ namesSp i) (h : exec i s = .next t) :
    counter t = counter s := by
  obtain ⟨u, p, rfl, hu, _⟩ := exec_eq_next h
  simp [counter, hu.reg .sp (not_mayWrite_sp hs hn), hu.stk hs]

/-! ## The key event -/

theorem packed_eq_pack (f : Flags) : f.pack = packed f := by
  obtain ⟨z, c, n, v, i⟩ := f
  have h : ∀ z c n v : Bool, (BitVec.ofBool v ++ BitVec.ofBool n ++ BitVec.ofBool c ++ BitVec.ofBool z).setWidth 32 =
      BitVec.ofNat 32 (z.toNat + 2 * c.toNat + 4 * n.toNat + 8 * v.toNat) := by decide
  exact h z c n v

theorem vectorEnabled_iff (s : State) : vectorEnabled s = true ↔ Vectors s := by
  simp [vectorEnabled, Vectors, and_assoc]

/-- The state with a key event taken off the schedule and its effect on the device done (R1203). -/
def keyed (s : State) (scan ascii : Word) (q : List Turn) : State :=
  { s with kbd := keyboardAfter s.kbd scan ascii, sched := q }

/-- The device's update has no part in whether the event vectors (R1204). -/
theorem vectorEnabled_keyed (s : State) (scan ascii : Word) (q : List Turn) :
    vectorEnabled (keyed s scan ascii q) = true ↔ Vectors s := vectorEnabled_iff _

theorem step_key {scan ascii : Word} {q : List Turn} (h : s.sched = .host (.key scan ascii) :: q) :
    step s = if vectorEnabled (keyed s scan ascii q) then interruptEntry (keyed s scan ascii q)
      else .next (keyed s scan ascii q) := by
  rw [step_host h]
  rfl

/-- The two pushes of the interrupt's entry are those of `pushAll`. -/
theorem interruptEntry_eq (s : State) :
    interruptEntry s = andThen (pushAll [s.pc, s.flags.pack] s) fun u =>
      .next (((u.setPc u.kbd.handler).setFlags (u.flags.setI true)).setAdvancing false) := by
  cases hf : s.stackFull with
  | true => simp [interruptEntry, pushAll, push, hf]
  | false =>
    have hp : push s.pc s = .next (s.pushed s.pc) := push_eq_next.2 ⟨hf, rfl⟩
    rw [interruptEntry, pushAll, hp, andThen_next, andThen_next, pushAll]
    cases hg : (s.pushed s.pc).stackFull with
    | true => simp [push, hg]
    | false => simp [push, hg, pushAll, show (s.pushed s.pc).flags = s.flags from rfl]

theorem interruptEntry_full {n : Nat} (hn : s.par.stackCapacity = some n) (hle : s.stk.length ≤ n)
    (hlt : n < s.stk.length + 2) : interruptEntry s = .refused .stackFull := by
  rw [interruptEntry_eq, pushAll_full [s.pc, s.flags.pack] hn hle hlt, andThen_refused]

theorem interruptEntry_of_hasRoom (h : s.hasRoom 2) : ∃ t, interruptEntry s = .next t := by
  obtain ⟨u, hu⟩ := pushAll_of_hasRoom [s.pc, s.flags.pack] h
  exact ⟨_, by rw [interruptEntry_eq, hu, andThen_next]⟩

/-- What the entry leaves, as R1206 lists it. -/
theorem interruptEntry_spec (h : s.hasRoom 2) : ∃ t, interruptEntry s = .next t ∧ spDown s t 2 ∧
    t = { s with regs := t.regs, stk := packed s.flags :: s.pc :: s.stk, pc := s.kbd.handler,
                 flags := { s.flags with i := true }, advancing := false } := by
  obtain ⟨t, ht⟩ := interruptEntry_of_hasRoom h
  obtain ⟨_, _, hte⟩ := interruptEntry_eq_next ht
  refine ⟨t, ht, fun q => ?_, ?_⟩
  · rw [hte]
    exact Regs.read_write s.regs .sp q _
  · rw [hte, packed_eq_pack]
    rfl

end Sys2Proof.Proofs

namespace Sys2Proof.Settled

open Sys2Proof Sys2Proof.Machine Sys2Proof.Claims Sys2Proof.Proofs

/-- Settles O35: each of the four is its pushes first. -/
theorem fullStackRefusesPushes : Obligations.FullStackRefusesPushes := by
  refine ⟨fun s h => ⟨fun rs => ?_, fun x => ?_, ?_⟩, fun s n hn hle hlt => ?_⟩
  · rw [exec, execPush, push_full _ h, andThen_refused]
  · rw [exec, execCall, push_full _ h, andThen_refused]
  · rw [exec, execPushf, push_full _ h, andThen_refused]
  · rw [exec, execPusha, pushAll_full (generalRegs.map s.reg) hn hle hlt, andThen_refused]

/-- Settles O54: pushes and pops move SP and the depth against each other; every other instruction writes neither. -/
theorem stackCounterFollowsDepth : Obligations.StackCounterFollowsDepth := by
  intro i s t h hn
  cases hs : writesStk i with
  | true => exact counter_exec_stack hs hn h
  | false => exact counter_exec_other hs hn h

/-- Settles O49: the device's update, then the entry's two pushes, where the event vectors. -/
theorem keyEvent : Obligations.KeyEvent := by
  intro s scan ascii q h
  rw [step_key h]
  have hv := vectorEnabled_keyed s scan ascii q
  refine ⟨fun hnot => ?_, fun hyes hroom => ?_, fun n hyes hn hle hlt => ?_⟩
  · rw [if_neg (mt hv.1 hnot)]
    rfl
  · rw [if_pos (hv.2 hyes)]
    exact interruptEntry_spec (s := keyed s scan ascii q) hroom
  · rw [if_pos (hv.2 hyes)]
    exact interruptEntry_full (s := keyed s scan ascii q) hn hle hlt

end Sys2Proof.Settled
end

section
/-! SUPPORT. The invariant of Safety.lean along every turn. `Sound` is the invariant but for the mark of an
auto-advance: every instruction keeps it, and the end of a command that may auto-advance sets the mark by what the invariant says of it. -/

namespace Sys2Proof.Proofs

open Sys2Proof Sys2Proof.Machine Sys2Proof.Claims

variable {i : Instr} {s t u : State}

/-- What holds of the state an outcome names holds of the state it answers. -/
theorem of_next {P : State → Prop} (h : (.next u : Result) = .next t) (hu : P u) : P t := by
  injection h with h
  exact h ▸ hu

/-! ## What an instruction keeps -/

/-- DMEM is canonical and in range (20_memory.md R201). -/
def DmemSound (s : State) : Prop := s.dmem.wf = true ∧ s.dmem.below 256 = true

/-- The framebuffer and the keyboard device are as the invariant says (10_state.md R130, R131, R140). -/
structure DevicesSound (s : State) : Prop where
  fbCanonical : s.fb.wf = true
  fbInRange : s.fb.below 8192 = true
  queueBounded : s.kbd.queue.length ≤ 16
  handlerSet : s.kbd.handlerValid = false → s.kbd.handler = 0

theorem memWrite_dmemSound {a v : Word} (h : DmemSound s) : DmemSound (memWrite a v s) :=
  ⟨memWrite_wf a v h.1, memWrite_below a v h.2⟩

theorem exec_dmemSound (h : DmemSound s) (he : exec i s = .next t) : DmemSound t := by
  cases hw : writesDmem i with
  | false =>
    obtain ⟨u, p, rfl, hu, _⟩ := exec_eq_next he
    have hd : (u.setPc p).dmem = s.dmem := hu.dmem hw
    rwa [DmemSound, hd]
  | true =>
    cases i with
    | str | stri => exact of_next he (memWrite_dmemSound h)
    | reset => exact of_next he ⟨rfl, rfl⟩
    | _ => exact Bool.noConfusion hw

theorem drawPoints_devicesSound {ps : List Point} (h : DevicesSound s) : DevicesSound (drawPoints ps s) :=
  { h with fbCanonical := plotAll_wf ps _ h.fbCanonical, fbInRange := plotAll_below ps _ h.fbInRange }

theorem performService_devicesSound (svc : Service) (h : DevicesSound s) : DevicesSound (performService svc s) := by
  cases svc with
  | screenClear => exact { h with fbCanonical := rfl, fbInRange := rfl }
  | screenSetPixel =>
    exact { h with fbCanonical := plot_wf _ _ h.fbCanonical, fbInRange := plot_below _ _ h.fbInRange }
  | screenDrawLine | screenDrawRect | screenFillRect => exact drawPoints_devicesSound h
  | screenDrawCircle =>
    show DevicesSound (screenDrawCircle s)
    unfold screenDrawCircle
    split
    · exact drawPoints_devicesSound h
    · exact h
  | screenPrintChar =>
    exact { h with fbCanonical := putCharFb_wf _ _ _ h.fbCanonical, fbInRange := putCharFb_below _ _ _ h.fbInRange }
  | kbdEnable | kbdDisable => exact { h with }
  | kbdSetHandler => exact { h with handlerSet := nofun }
  | kbdRead =>
    show DevicesSound (kbdRead s)
    unfold kbdRead
    split
    · rename_i a rest hq
      have hlen := h.queueBounded
      rw [hq, List.length_cons] at hlen
      exact { h with queueBounded := Nat.le_of_succ_le hlen }
    · exact { h with }
  | kbdClear => exact { h with queueBounded := Nat.zero_le _ }
  | printChar | printNum | printHex | printBin | screenGetPixel | screenSetColor | screenSetCursor | kbdScancode | kbdAscii
  | kbdStatus | kbdBufsize | random | getTime | beep | playTone => exact { h with }

theorem execInt_devicesSound {n : Word} (h : DevicesSound s) (he : execInt n s = .next t) : DevicesSound t := by
  unfold execInt at he
  split at he
  · exact of_next he { performService_devicesSound _ h with }
  · exact of_next he { h with }

theorem exec_devicesSound (h : DevicesSound s) (he : exec i s = .next t) : DevicesSound t := by
  cases hw : isInt i with
  | false =>
    obtain ⟨u, p, rfl, hu, _⟩ := exec_eq_next he
    obtain ⟨hkbd, hfb, _⟩ := hu.devices hw
    have hk : (u.setPc p).kbd = s.kbd := hkbd
    have hf : (u.setPc p).fb = s.fb := hfb
    exact ⟨hf ▸ h.fbCanonical, hf ▸ h.fbInRange, hk ▸ h.queueBounded, hk ▸ h.handlerSet⟩
  | true =>
    cases i with
    | int n => exact execInt_devicesSound h he
    | _ => exact Bool.noConfusion hw

/-! The stack within its capacity (R123). -/

theorem withinCapacity_of_next (h : (.next u : Result) = .next t) (hu : u.hasRoom 0) : t.hasRoom 0 :=
  of_next (P := fun t => t.hasRoom 0) h hu

theorem pushed_withinCapacity {v : Word} (h : s.hasRoom 0) (hf : s.stackFull = false) : (s.pushed v).hasRoom 0 := by
  intro n hn
  have hle := h n hn
  have hne : s.stk.length ≠ n := fun e => (stackFull_eq_false s).1 hf (e ▸ hn)
  show s.stk.length + 1 + 0 ≤ n
  omega

theorem push_withinCapacity {v : Word} (h : s.hasRoom 0) (hp : push v s = .next t) : t.hasRoom 0 := by
  obtain ⟨hf, rfl⟩ := push_eq_next.1 hp
  exact pushed_withinCapacity h hf

theorem pushAll_withinCapacity {vs : List Word} (h : s.hasRoom 0) (hp : pushAll vs s = .next t) : t.hasRoom 0 := by
  induction vs generalizing s with
  | nil => exact withinCapacity_of_next hp h
  | cons v vs ih =>
    obtain ⟨u, hu, ht⟩ := andThen_eq_next.1 hp
    exact ih (push_withinCapacity h hu) ht

theorem pop_withinCapacity {v : Word} (h : s.hasRoom 0) (hp : pop s = some (v, t)) : t.hasRoom 0 := by
  rcases pop_cases s with ⟨_, hn⟩ | ⟨w, rest, hs, hw⟩
  · simp [hn] at hp
  · obtain ⟨_, rfl⟩ : w = v ∧ _ = t := by simpa [hw] using hp
    intro n hn
    have hle := h n hn
    rw [hs, List.length_cons] at hle
    show rest.length + 0 ≤ n
    omega

theorem popEach_withinCapacity {rs : List Reg} (h : s.hasRoom 0) : (popEach rs s).hasRoom 0 := by
  induction rs generalizing s with
  | nil => exact h
  | cons r rs ih =>
    unfold popEach
    split
    · rename_i v u hp
      have hu : u.hasRoom 0 := pop_withinCapacity h hp
      exact ih (s := u.setReg r v) hu
    · exact ih h

theorem popFlags_withinCapacity (h : s.hasRoom 0) : (popFlags s).hasRoom 0 := by
  unfold popFlags
  split
  · rename_i f u hp
    exact (pop_withinCapacity h hp : u.hasRoom 0)
  · exact h

theorem popPc_withinCapacity (h : s.hasRoom 0) : (popPc s).hasRoom 0 := by
  unfold popPc
  split
  · rename_i v u hp
    exact (pop_withinCapacity h hp : u.hasRoom 0)
  · exact h

theorem execPop_withinCapacity {rd : Reg} (h : s.hasRoom 0) (he : execPop rd s = .next t) : t.hasRoom 0 := by
  unfold execPop at he
  split at he
  · rename_i v u hp
    exact withinCapacity_of_next he (pop_withinCapacity h hp : u.hasRoom 0)
  · exact withinCapacity_of_next he h

/-- A push, then a change that leaves the stack alone. -/
theorem push_then_withinCapacity {v : Word} {k : State → State} (hk : ∀ u : State, u.hasRoom 0 → (k u).hasRoom 0)
    (h : s.hasRoom 0) (he : andThen (push v s) (fun u => .next (k u)) = .next t) : t.hasRoom 0 := by
  obtain ⟨u, hu, ht⟩ := andThen_eq_next.1 he
  exact withinCapacity_of_next ht (hk u (push_withinCapacity h hu))

theorem exec_withinCapacity (h : s.hasRoom 0) (he : exec i s = .next t) : t.hasRoom 0 := by
  cases hw : writesStk i with
  | false =>
    obtain ⟨u, p, rfl, hu, _⟩ := exec_eq_next he
    intro n hn
    rw [State.setPc_par, hu.par] at hn
    rw [State.setPc_stk, hu.stk hw]
    exact h n hn
  | true =>
    cases i with
    | push r => exact push_then_withinCapacity (v := s.reg r) (k := State.advance) (fun _ hu => hu) h he
    | pushf => exact push_then_withinCapacity (v := s.flags.pack) (k := State.advance) (fun _ hu => hu) h he
    | call x => exact push_then_withinCapacity (v := s.pc + 1) (k := fun u => u.setPc x) (fun _ hu => hu) h he
    | pusha =>
      obtain ⟨u, hu, ht⟩ := andThen_eq_next.1 he
      exact withinCapacity_of_next ht (pushAll_withinCapacity h hu : u.hasRoom 0)
    | pop rd => exact execPop_withinCapacity h he
    | popa => exact withinCapacity_of_next he (popEach_withinCapacity (rs := generalRegs.reverse) h)
    | popf => exact withinCapacity_of_next he (popFlags_withinCapacity h)
    | ret => exact withinCapacity_of_next he (popPc_withinCapacity h)
    | iret => exact withinCapacity_of_next he (popPc_withinCapacity (popFlags_withinCapacity h))
    | reset => exact withinCapacity_of_next he fun n _ => Nat.zero_le n
    | _ => exact Bool.noConfusion hw

/-- RUN is written by HALT only, which makes it HALTED (R1002). -/
theorem exec_run (he : exec i s = .next t) : t.run = s.run ∨ t.run = .halted := by
  by_cases hi : i = .halt
  · subst hi
    exact .inr (of_next (P := fun t => t.run = .halted) he rfl)
  · obtain ⟨u, p, rfl, hu, _⟩ := exec_eq_next he
    exact .inl (hu.run hi)

/-! ## The invariant but for the mark of an auto-advance -/

/-- The invariant of the state without the mark of an auto-advance. -/
def Sound (s : State) : Prop := (s.setAdvancing false).Inv

theorem sound_of_inv (h : s.Inv) : Sound s := { h with advancingSteps := nofun, advancingBlank := nofun }

theorem inv_of_sound (h : Sound s) (ha : s.advancing = false) : s.Inv :=
  { h with advancingSteps := by simp [ha], advancingBlank := by simp [ha] }

/-- The mark is set exactly where the invariant allows it (R415; log entry 4). -/
theorem stillAdvancing_inv (h : Sound s) : (stillAdvancing s).Inv :=
  { h with
    advancingSteps := fun ha => (advances_eq_true.1 ha).1
    advancingBlank := fun ha => (advances_eq_true.1 ha).2 }

theorem setRun_sound {r : RunState} (h : Sound s) (hr : r = .running ∨ r = .stepping → s.imem ≠ []) :
    Sound (s.setRun r) :=
  { h with programLoaded := hr, advancingSteps := nofun }

theorem setRun_halted_sound (h : Sound s) : Sound (s.setRun .halted) := setRun_sound h (by simp)

theorem complete_sound (h : Sound s) : Sound (complete s) := by
  unfold complete
  split
  · exact h
  · split
    · exact setRun_halted_sound h
    · exact h

theorem recordBus_sound (h : Sound s) : Sound (recordBus s) := by
  rw [recordBus_frame]
  exact { h with }

theorem exec_sound (h : Sound s) (he : exec i s = .next t) : Sound t := by
  obtain ⟨hdmem, hbelow⟩ := exec_dmemSound (s := s) ⟨h.dmemCanonical, h.dmemInRange⟩ he
  have hdevices := exec_devicesSound (s := s) ⟨h.fbCanonical, h.fbInRange, h.queueBounded, h.handlerSet⟩ he
  have hstk : t.hasRoom 0 := exec_withinCapacity (s := s) h.stackBounded he
  have himem : t.imem = s.imem := by
    obtain ⟨u, p, rfl, hu, _⟩ := exec_eq_next he
    exact hu.imem
  exact {
    dmemCanonical := hdmem
    dmemInRange := hbelow
    fbCanonical := hdevices.fbCanonical
    fbInRange := hdevices.fbInRange
    queueBounded := hdevices.queueBounded
    handlerSet := hdevices.handlerSet
    programBounded := himem ▸ h.programBounded
    stackBounded := hstk
    programLoaded := fun hr => by
      rcases exec_run he with hrun | hrun
      · exact himem ▸ h.programLoaded (hrun ▸ hr)
      · simp [hrun] at hr
    advancingSteps := nofun
    advancingBlank := nofun }

/-! ## Turns -/

theorem engineStep_sound (h : Sound s) (he : engineStep s = .next t) : Sound t := by
  rcases engineStep_cases he with ⟨_, rfl⟩ | ⟨w, why, _, _, rfl⟩ | ⟨w, i, u, _, _, hu, rfl⟩
  · exact setRun_halted_sound h
  · exact recordBus_sound (complete_sound { h with advancingBlank := nofun })
  · exact recordBus_sound (complete_sound (exec_sound h hu))

/-- No instruction, completion or bus record touches the mark of an auto-advance. -/
theorem engineStep_advancing (he : engineStep s = .next t) : t.advancing = s.advancing := by
  rcases engineStep_cases he with ⟨_, rfl⟩ | ⟨w, why, _, _, rfl⟩ | ⟨w, i, u, _, _, hu, rfl⟩
  · rfl
  · rw [recordBus_frame, complete_frame]
    rfl
  · obtain ⟨v, p, rfl, hv, _⟩ := exec_eq_next hu
    rw [recordBus_frame, complete_frame]
    exact hv.advancing

/-- A step that may go on with an auto-advance. -/
theorem stepping_inv (h : Sound s) (he : andThen (engineStep s) (fun t => .next (stillAdvancing t)) = .next t) : t.Inv := by
  obtain ⟨u, hu, ht⟩ := andThen_eq_next.1 he
  exact of_next ht (stillAdvancing_inv (engineStep_sound h hu))

theorem engineTurn_inv (h : s.Inv) (he : engineTurn s = .next t) : t.Inv := by
  unfold engineTurn at he
  split at he
  · rename_i hrun
    have hoff : s.advancing = false := by
      cases ha : s.advancing with
      | false => rfl
      | true => exact absurd (h.advancingSteps ha) (by simp [hrun])
    exact inv_of_sound (engineStep_sound (sound_of_inv h) he) (by rw [engineStep_advancing he, hoff])
  · split at he
    · exact stepping_inv (sound_of_inv h) he
    · exact of_next he (sound_of_inv h)
  all_goals
    exact of_next he h

/-- External reset, then RUN set (R413, R418): everything but the program has its reset value. -/
theorem externalReset_sound {r : RunState} (hp : s.imem.length < 2 ^ 32)
    (hr : r = .running ∨ r = .stepping → s.imem ≠ []) : Sound ((externalReset s).setRun r) where
  dmemCanonical := rfl
  dmemInRange := rfl
  fbCanonical := rfl
  fbInRange := rfl
  queueBounded := Nat.zero_le _
  handlerSet := fun _ => rfl
  programBounded := hp
  stackBounded := fun n _ => Nat.zero_le n
  programLoaded := hr
  advancingSteps := nofun
  advancingBlank := nofun

theorem start_inv {mode : RunState} {p : List InstrWord} (h : s.Inv) (he : start mode p s = .next t) : t.Inv := by
  unfold start at he
  split at he
  · split at he
    · rename_i hlen
      refine of_next he (stillAdvancing_inv (externalReset_sound (s := s.setImem p) hlen ?_))
      rintro hr rfl
      simp at hr
    · cases he
  · exact of_next he h

theorem stepCommand_inv (h : s.Inv) (he : stepCommand s = .next t) : t.Inv := by
  unfold stepCommand at he
  split at he
  · exact stepping_inv (sound_of_inv h) he
  · exact of_next he h

theorem stopCommand_inv (h : s.Inv) : (stopCommand s).Inv := by
  unfold stopCommand
  split
  · exact stillAdvancing_inv (setRun_sound { sound_of_inv h with } (by simp))
  · exact h

theorem resetCommand_inv (h : s.Inv) : (resetCommand s).Inv :=
  stillAdvancing_inv (externalReset_sound h.programBounded (by simp))

theorem keyPressed_inv (scan ascii : Word) (h : s.Inv) : (s.setKbd (keyPressed scan ascii s.kbd)).Inv :=
  { h with
    queueBounded := by
      show (if s.kbd.queue.length < 16 then s.kbd.queue ++ [(scan, ascii)] else s.kbd.queue).length ≤ 16
      split
      · simp; omega
      · exact h.queueBounded }

theorem interruptEntry_inv (h : s.Inv) (he : interruptEntry s = .next t) : t.Inv := by
  obtain ⟨u, hu, ht⟩ := andThen_eq_next.1 (interruptEntry_eq s ▸ he)
  have hroom : u.hasRoom 0 := pushAll_withinCapacity h.stackBounded hu
  have hframe := pushAll_eq_next hu
  injection ht with ht
  subst ht hframe
  exact { h with stackBounded := hroom, advancingSteps := nofun, advancingBlank := nofun }

theorem keyEvent_eq (scan ascii : Word) (s : State) :
    keyEvent scan ascii s =
      if vectorEnabled (s.setKbd (keyPressed scan ascii s.kbd)) then
        interruptEntry (s.setKbd (keyPressed scan ascii s.kbd))
      else .next (s.setKbd (keyPressed scan ascii s.kbd)) := rfl

theorem keyEvent_inv {scan ascii : Word} (h : s.Inv) (he : keyEvent scan ascii s = .next t) : t.Inv := by
  rw [keyEvent_eq] at he
  split at he
  · exact interruptEntry_inv (keyPressed_inv scan ascii h) he
  · exact of_next he (keyPressed_inv scan ascii h)

theorem hostAct_inv {a : HostAction} (h : s.Inv) (he : hostAct a s = .next t) : t.Inv := by
  cases a with
  | run p | stepStart p => exact start_inv h he
  | step => exact stepCommand_inv h he
  | stop =>
    exact of_next he (stopCommand_inv h)
  | reset =>
    exact of_next he (resetCommand_inv h)
  | key scan ascii => exact keyEvent_inv h he
  | speed n =>
    exact of_next he h

theorem setSched_inv (q : List Turn) (h : s.Inv) : (s.setSched q).Inv := { h with }

/-! ## Turns that always answer -/

/-- The outcome is a next state with the parameters and the schedule of `s`. -/
def Answers (s : State) (o : Result) : Prop := ∃ t, o = .next t ∧ t.par = s.par ∧ t.sched = s.sched

theorem Answers.next (hp : t.par = s.par) (hs : t.sched = s.sched) : Answers s (.next t) := ⟨t, rfl, hp, hs⟩

theorem perform_answers (w : InstrWord) (h : s.par.stackCapacity = none) : Answers s (perform w s) := by
  unfold perform
  split
  · rename_i i _
    obtain ⟨t, ht⟩ := exec_of_unbounded i h
    rw [ht]
    obtain ⟨u, p, rfl, hu, _⟩ := exec_eq_next ht
    exact .next hu.par hu.sched
  · exact .next rfl rfl

theorem engineStep_answers (h : s.par.stackCapacity = none) : Answers s (engineStep s) := by
  unfold engineStep
  split
  · exact .next rfl rfl
  · rename_i w _
    obtain ⟨t, ht, hp, hs⟩ := perform_answers w h
    rw [ht, andThen_next, recordBus_frame, complete_frame]
    exact .next hp hs

theorem stepping_answers (h : s.par.stackCapacity = none) :
    Answers s (andThen (engineStep s) fun t => .next (stillAdvancing t)) := by
  obtain ⟨t, ht, hp, hs⟩ := engineStep_answers h
  rw [ht]
  exact .next hp hs

theorem engineTurn_answers (h : s.par.stackCapacity = none) : Answers s (engineTurn s) := by
  unfold engineTurn
  split
  · exact engineStep_answers h
  · split
    · exact stepping_answers h
    · exact .next rfl rfl
  all_goals exact .next rfl rfl

theorem start_answers {mode : RunState} {p : List InstrWord} (hp : p.length < 2 ^ 32) : Answers s (start mode p s) := by
  unfold start
  rw [if_pos hp]
  split <;> exact .next rfl rfl

theorem keyEvent_answers (scan ascii : Word) (h : s.par.stackCapacity = none) : Answers s (keyEvent scan ascii s) := by
  rw [keyEvent_eq]
  split
  · have hroom : (s.setKbd (keyPressed scan ascii s.kbd)).hasRoom 2 := hasRoom_of_unbounded 2 h
    obtain ⟨t, ht, _, hte⟩ := interruptEntry_spec hroom
    rw [ht, hte]
    exact .next rfl rfl
  · exact .next rfl rfl

theorem hostAct_answers {a : HostAction} (h : s.par.stackCapacity = none) (ha : (Turn.host a).wellSized) :
    Answers s (hostAct a s) := by
  cases a with
  | run p | stepStart p => exact start_answers ha
  | step =>
    show Answers s (stepCommand s)
    unfold stepCommand
    split
    · exact stepping_answers h
    · exact .next rfl rfl
  | stop =>
    show Answers s (.next (stopCommand s))
    unfold stopCommand
    split <;> exact .next rfl rfl
  | reset | speed => exact .next rfl rfl
  | key scan ascii => exact keyEvent_answers scan ascii h

/-- A turn answers, keeps the parameters and takes the schedule's next turn off. -/
theorem step_answers (h : s.par.stackCapacity = none) (hq : ∀ x ∈ s.sched, x.wellSized) :
    ∃ t, step s = .next t ∧ t.par = s.par ∧ t.sched = s.sched.tail := by
  match hs : s.sched with
  | [] =>
    rw [step_engine hs]
    obtain ⟨t, ht, hpar, hsched⟩ := engineTurn_answers h
    exact ⟨t, ht, hpar, hsched.trans hs⟩
  | .engine :: q =>
    rw [step_engine_scheduled hs]
    exact engineTurn_answers (s := s.setSched q) h
  | .host a :: q =>
    rw [step_host hs]
    exact hostAct_answers (s := s.setSched q) h (hq _ (by simp [hs]))

theorem turns_zero (s : State) : turns 0 s = .next s := rfl

theorem run_succ {M : Host.Core} {k : Nat} {x y : M.State} (h : M.step x = .next y) : M.run (k + 1) x = M.run k y := by
  simp [Host.Core.run, h]

theorem turns_succ {k : Nat} (h : step s = .next t) : turns (k + 1) s = turns k t := run_succ (M := Sys2Proof.core) h

end Sys2Proof.Proofs

namespace Sys2Proof.Settled

open Sys2Proof Sys2Proof.Machine Sys2Proof.Claims Sys2Proof.Proofs

/-- Settles O56, turn by turn. -/
theorem stepKeepsInvariant : Obligations.StepKeepsInvariant := by
  intro s t h he
  match hs : s.sched with
  | [] => exact engineTurn_inv h (step_engine hs ▸ he)
  | .engine :: q => exact engineTurn_inv (setSched_inv q h) (step_engine_scheduled hs ▸ he)
  | .host a :: q => exact hostAct_inv (setSched_inv q h) (step_host hs ▸ he)

/-- Settles O58, by induction on the number of turns: an unbounded capacity and an admissible schedule last. -/
theorem engineNeverStops : Obligations.EngineNeverStops := by
  intro k
  induction k with
  | zero => exact fun s _ _ => ⟨s, turns_zero s⟩
  | succ k ih =>
    intro s h hq
    obtain ⟨t, ht, hpar, hsched⟩ := step_answers h hq
    rw [turns_succ ht]
    exact ih t (hpar ▸ h) fun x hx => hq x (List.mem_of_mem_tail (hsched ▸ hx))

/-- Settles O6: field by field; an empty memory reads as 0 everywhere. -/
theorem resetLeavesSpecifiedValues : Obligations.ResetLeavesSpecifiedValues := by
  have hpixel : ∀ p, pixel State.reset.fb p = 0 := fun p => by
    unfold pixel
    split <;> rfl
  exact ⟨Regs.reset_read, rfl, rfl, Memory.read_nil, rfl, rfl, rfl, hpixel, rfl, rfl, rfl, rfl, rfl⟩

end Sys2Proof.Settled
end

section
/-! SUPPORT. Data memory access: the words of the loads and stores, field by field, and what MemRead and MemWrite leave
(20_memory.md R203, R204). -/

namespace Sys2Proof.Proofs

open Sys2Proof Sys2Proof.Machine Sys2Proof.Claims

variable {s t : State}

/-! ## Words, one lemma per format -/

section
variable {opc : BitVec 8} {v : Word}

theorem regCode_eq_code (r : Reg) : regCode r = r.code := by cases r <;> rfl

theorem decode_toWord (f : Fields) : decode f.toWord = decodeFields f := by rw [decode, Fields.ofWord_toWord]

theorem decode_wordDI {k : Reg → Word → Instr} {rd : Reg}
    (h : decodeFields (putDI opc rd v) = readDI (putDI opc rd v) k) :
    decode (wordOf opc (regCode rd) 0 0 0 0 v) = .ok (k rd v) := by
  have hw : wordOf opc (regCode rd) 0 0 0 0 v = (putDI opc rd v).toWord := by rw [regCode_eq_code]; rfl
  have hr : usedReg (putDI opc rd v).rd = .ok rd := usedReg_code rd
  rw [hw, decode_toWord, h, readDI, hr]
  rfl

theorem decode_wordSI {k : Reg → Word → Instr} {ra : Reg}
    (h : decodeFields (putSI opc ra v) = readSI (putSI opc ra v) k) :
    decode (wordOf opc 0 (regCode ra) 0 0 0 v) = .ok (k ra v) := by
  have hw : wordOf opc 0 (regCode ra) 0 0 0 v = (putSI opc ra v).toWord := by rw [regCode_eq_code]; rfl
  have hr : usedReg (putSI opc ra v).ra = .ok ra := usedReg_code ra
  rw [hw, decode_toWord, h, readSI, hr]
  rfl

theorem decode_wordDS {k : Reg → Reg → Instr} {rd ra : Reg}
    (h : decodeFields (putDS opc rd ra) = readDS (putDS opc rd ra) k) :
    decode (wordOf opc (regCode rd) (regCode ra) 0 0 0 0) = .ok (k rd ra) := by
  have hw : wordOf opc (regCode rd) (regCode ra) 0 0 0 0 = (putDS opc rd ra).toWord := by
    rw [regCode_eq_code, regCode_eq_code]; rfl
  have hd : usedReg (putDS opc rd ra).rd = .ok rd := usedReg_code rd
  have ha : usedReg (putDS opc rd ra).ra = .ok ra := usedReg_code ra
  rw [hw, decode_toWord, h, readDS, hd, ha]
  rfl

theorem decode_wordSS {k : Reg → Reg → Instr} {ra rb : Reg}
    (h : decodeFields (putSS opc ra rb) = readSS (putSS opc ra rb) k) :
    decode (wordOf opc 0 (regCode ra) (regCode rb) 0 0 0) = .ok (k ra rb) := by
  have hw : wordOf opc 0 (regCode ra) (regCode rb) 0 0 0 = (putSS opc ra rb).toWord := by
    rw [regCode_eq_code, regCode_eq_code]; rfl
  have ha : usedReg (putSS opc ra rb).ra = .ok ra := usedReg_code ra
  have hb : usedReg (putSS opc ra rb).rb = .ok rb := usedReg_code rb
  rw [hw, decode_toWord, h, readSS, ha, hb]
  rfl

end

/-! ## MemRead and MemWrite -/

theorem inRange_iff (a : Word) : inRange a = true ↔ a.toNat < 256 := by simp [inRange]

theorem outAfterAccess_of_lt {a : Word} (h : a.toNat < 256) : outAfterAccess s a = s.out :=
  if_neg fun hc => Nat.not_le.2 h hc.2

/-- The diagnostic of an address out of range (R203, R204). -/
theorem reportRange_eq {a : Word} (h : ¬ a.toNat < 256) : reportRange a s = { s with out := outAfterAccess s a } := by
  have ha : 256 ≤ a.toNat := Nat.le_of_not_lt h
  cases hd : s.par.diagOnMemRange <;> simp [reportRange, outAfterAccess, hd, ha, State.raise, State.emit]

theorem memValue_eq_cellAt (a : Word) (s : State) : memValue a s = cellAt s a := by
  simp [memValue, cellAt, inRange_iff]

/-- A read leaves its diagnostic only (R203). -/
theorem afterRead_eq (a : Word) (s : State) : afterRead a s = { s with out := outAfterAccess s a } := by
  by_cases h : a.toNat < 256
  · rw [afterRead, if_pos ((inRange_iff a).2 h), outAfterAccess_of_lt h]
  · rw [afterRead, if_neg (mt (inRange_iff a).1 h), reportRange_eq h]

/-- A write leaves the data memory and its diagnostic only (R204). -/
theorem memWrite_frame (a v : Word) (s : State) :
    memWrite a v s = { s with dmem := (memWrite a v s).dmem, out := outAfterAccess s a } := by
  by_cases h : a.toNat < 256
  · rw [memWrite, if_pos ((inRange_iff a).2 h), outAfterAccess_of_lt h]
    rfl
  · rw [memWrite, if_neg (mt (inRange_iff a).1 h), reportRange_eq h]

/-- The cells after a write (R204): the one named takes the value, where it is in range. -/
theorem memWrite_read {a v : Word} (h : s.dmem.wf = true) (b : Nat) :
    (memWrite a v s).dmem.read b = if b = a.toNat ∧ a.toNat < 256 then v else s.dmem.read b := by
  by_cases ha : a.toNat < 256
  · rw [memWrite, if_pos ((inRange_iff a).2 ha), State.setDmem_dmem, Memory.read_write _ _ _ h]
    simp [ha]
  · rw [memWrite, if_neg (mt (inRange_iff a).1 ha), reportRange_eq ha, if_neg fun hc => ha hc.2]

/-! ## Loads and stores -/

theorem loadFrom_writesOut (rd : Reg) (a : Word) (s : State) :
    WritesOut (loadFrom rd a s) s rd (cellAt s a) s.flags (outAfterAccess s a) := by
  rw [loadFrom, afterRead_eq, memValue_eq_cellAt]
  exact ⟨_, rfl, fun q => State.setReg_reg _ rd q _, rfl⟩

theorem storeTo_stores (a v : Word) (h : s.dmem.wf = true) : Stores (storeTo a v s) s a v := by
  refine ⟨_, rfl, memWrite_read h, ?_⟩
  rw [memWrite_frame]
  rfl

end Sys2Proof.Proofs

namespace Sys2Proof.Settled

open Sys2Proof Sys2Proof.Machine Sys2Proof.Claims Sys2Proof.Proofs

/-- Settles O16: both are MemRead at their own address, then a register write. -/
theorem loads : Obligations.Loads :=
  ⟨fun _ _ => decode_wordDI rfl, fun _ _ => decode_wordDS rfl, fun s =>
    ⟨fun rd addr => loadFrom_writesOut rd addr s, fun rd ra => loadFrom_writesOut rd (s.reg ra) s⟩⟩

/-- Settles O17: both are MemWrite at their own address. -/
theorem storesWriteOneCell : Obligations.StoresWriteOneCell :=
  ⟨fun _ _ => decode_wordSI rfl, fun _ _ => decode_wordSS rfl, fun s h =>
    ⟨fun rs addr => storeTo_stores addr (s.reg rs) h, fun rs ra => storeTo_stores (s.reg ra) (s.reg rs) h⟩⟩

end Sys2Proof.Settled
end

section
/-! SUPPORT. What a turn can do to the program and to RUN, said once: R411's table of 40_execution_cycle.md as an inductive
relation, and that every turn is within it. -/

namespace Sys2Proof.Proofs

open Sys2Proof Sys2Proof.Machine Sys2Proof.Claims

/-- The program and RUN that a turn from `s` can leave (40_execution_cycle.md R411). -/
inductive TurnLeaves (s : State) : List InstrWord → RunState → Prop
  | kept : TurnLeaves s s.imem s.run
  | runStarted {p : List InstrWord} {q : List Turn} (hrest : s.atRest) (hs : s.sched = .host (.run p) :: q) :
      TurnLeaves s p (if p = [] then .halted else .running)
  | stepStarted {p : List InstrWord} {q : List Turn} (hrest : s.atRest) (hs : s.sched = .host (.stepStart p) :: q) :
      TurnLeaves s p (if p = [] then .halted else .stepping)
  | runHalted {s₀ : State} (hr : s.run = .running) (ht : EnginesTurn s s₀) : TurnLeaves s s.imem .halted
  | stepHalted {q : List Turn} (hr : s.run = .stepping) (hs : s.sched = .host .step :: q) : TurnLeaves s s.imem .halted
  | advanceHalted {s₀ : State} (hr : s.run = .stepping) (ha : s.advancing = true) (ht : EnginesTurn s s₀) :
      TurnLeaves s s.imem .halted
  | stopped {q : List Turn} (hr : s.run = .running ∨ s.run = .stepping) (hs : s.sched = .host .stop :: q) :
      TurnLeaves s s.imem .stopped
  | reset {q : List Turn} (hs : s.sched = .host .reset :: q) : TurnLeaves s s.imem .idle

variable {s s₀ t u : State}

/-! ## The engine's turn -/

/-- The completion test can only end the run (R407). -/
theorem complete_run (s : State) : (complete s).run = s.run ∨ (complete s).run = .halted := by
  unfold complete
  split
  · exact .inl rfl
  · split
    · exact .inr rfl
    · exact .inl rfl

/-- No engine step writes the program (20_memory.md R217). -/
theorem engineStep_imem (he : engineStep s = .next t) : t.imem = s.imem := by
  rcases engineStep_cases he with ⟨_, rfl⟩ | ⟨w, why, _, _, rfl⟩ | ⟨w, i, u, _, _, hu, rfl⟩
  · rfl
  · rw [recordBus_frame, complete_frame]
    rfl
  · obtain ⟨v, p, rfl, hv, _⟩ := exec_eq_next hu
    rw [recordBus_frame, complete_frame]
    exact hv.imem

/-- An engine step can only end the run (R407, R408, R1002). -/
theorem engineStep_run (he : engineStep s = .next t) : t.run = s.run ∨ t.run = .halted := by
  rcases engineStep_cases he with ⟨_, rfl⟩ | ⟨w, why, _, _, rfl⟩ | ⟨w, i, u, _, _, hu, rfl⟩
  · exact .inr rfl
  · rw [recordBus_frame]
    exact complete_run _
  · rw [recordBus_frame]
    rcases complete_run u with hc | hc
    · exact (exec_run hu).imp hc.trans hc.trans
    · exact .inr hc

/-- A step that may go on with an auto-advance leaves the program and RUN that the step leaves. -/
theorem stepping_imem_run (he : andThen (engineStep s) (fun t => .next (stillAdvancing t)) = .next t) :
    t.imem = s.imem ∧ (t.run = s.run ∨ t.run = .halted) := by
  obtain ⟨u, hu, ⟨⟩⟩ := andThen_eq_next.1 he
  exact ⟨engineStep_imem (t := u) hu, engineStep_run (t := u) hu⟩

theorem TurnLeaves.of_kept (hp : t.imem = s.imem) (hr : t.run = s.run) : TurnLeaves s t.imem t.run := by
  rw [hp, hr]
  exact .kept

/-- The program kept, and RUN kept or ended, where the table lets it end. -/
theorem TurnLeaves.of_step (hp : t.imem = s.imem) (hr : t.run = s.run ∨ t.run = .halted)
    (hhalt : TurnLeaves s s.imem .halted) : TurnLeaves s t.imem t.run := by
  rcases hr with hr | hr
  · exact .of_kept hp hr
  · rw [hp, hr]
    exact hhalt

theorem TurnLeaves.of_next (he : (.next u : Result) = .next t) (hu : TurnLeaves s u.imem u.run) :
    TurnLeaves s t.imem t.run :=
  Proofs.of_next (P := fun t => TurnLeaves s t.imem t.run) he hu

theorem eq_setSched_of_enginesTurn (h : EnginesTurn s s₀) : ∃ q, s₀ = s.setSched q := by
  rcases h with ⟨_, rfl⟩ | ⟨q, _, rfl⟩
  · exact ⟨s₀.sched, rfl⟩
  · exact ⟨q, rfl⟩

theorem engineTurn_leaves (ht : EnginesTurn s s₀) (he : engineTurn s₀ = .next t) : TurnLeaves s t.imem t.run := by
  obtain ⟨q, rfl⟩ := eq_setSched_of_enginesTurn ht
  unfold engineTurn at he
  split at he
  · rename_i hrun
    exact .of_step (engineStep_imem (s := s.setSched q) he) (engineStep_run (s := s.setSched q) he) (.runHalted hrun ht)
  · rename_i hrun
    split at he
    · rename_i hadv
      obtain ⟨hp, hr⟩ := stepping_imem_run he
      exact .of_step hp hr (.advanceHalted hrun (Bool.and_eq_true_iff.1 hadv).1 ht)
    · exact .of_next he .kept
  all_goals exact .of_next he .kept

/-! ## The host's commands -/

theorem acceptsStart_iff (s : State) : acceptsStart s = true ↔ s.atRest := by
  simp [acceptsStart, State.atRest, or_assoc]

/-- All that Run and Step-start can do when they answer (R413, R414). -/
theorem start_cases {mode : RunState} {p : List InstrWord} (he : start mode p s = .next t) :
    t = s ∨ (s.atRest ∧ t.imem = p ∧ t.run = if p = [] then .halted else mode) := by
  unfold start at he
  split at he
  · rename_i hrest
    split at he
    · cases he
      exact .inr ⟨(acceptsStart_iff s).1 hrest, rfl, by simp [stillAdvancing]⟩
    · cases he
  · cases he
    exact .inl rfl

/-- A key event writes neither the program nor RUN (60_exceptions.md R1203, R1206). -/
theorem keyEvent_imem_run {scan ascii : Word} (he : keyEvent scan ascii s = .next t) :
    t.imem = s.imem ∧ t.run = s.run := by
  rw [keyEvent_eq] at he
  split at he
  · obtain ⟨_, _, rfl⟩ := interruptEntry_eq_next he
    exact ⟨rfl, rfl⟩
  · cases he
    exact ⟨rfl, rfl⟩

theorem stopCommand_cases (s : State) :
    stopCommand s = s ∨ ((s.run = .running ∨ s.run = .stepping) ∧ (stopCommand s).imem = s.imem ∧
      (stopCommand s).run = .stopped) := by
  unfold stopCommand
  split
  · rename_i hr
    exact .inr ⟨hr, rfl, rfl⟩
  · exact .inl rfl

theorem hostAct_leaves {a : HostAction} {q : List Turn} (hs : s.sched = .host a :: q)
    (he : hostAct a (s.setSched q) = .next t) : TurnLeaves s t.imem t.run := by
  cases a with
  | run p =>
    rcases start_cases he with rfl | ⟨hrest, rfl, hr⟩
    · exact .kept
    · exact hr ▸ .runStarted hrest hs
  | stepStart p =>
    rcases start_cases he with rfl | ⟨hrest, rfl, hr⟩
    · exact .kept
    · exact hr ▸ .stepStarted hrest hs
  | step =>
    change stepCommand (s.setSched q) = .next t at he
    unfold stepCommand at he
    split at he
    · rename_i hrun
      obtain ⟨hp, hr⟩ := stepping_imem_run he
      exact .of_step hp hr (.stepHalted hrun hs)
    · exact .of_next he .kept
  | stop =>
    refine .of_next he ?_
    rcases stopCommand_cases (s.setSched q) with h | ⟨hrun, hp, hr⟩
    · rw [h]
      exact .kept
    · rw [hp, hr]
      exact .stopped hrun hs
  | reset => exact .of_next he (.reset hs)
  | key scan ascii =>
    obtain ⟨hp, hr⟩ := keyEvent_imem_run he
    exact .of_kept hp hr
  | speed n => exact .of_next he .kept

/-- Every turn leaves a program and RUN of the table. -/
theorem step_leaves (he : step s = .next t) : TurnLeaves s t.imem t.run := by
  match hs : s.sched with
  | [] => exact engineTurn_leaves (.inl ⟨hs, rfl⟩) (step_engine hs ▸ he)
  | .engine :: q => exact engineTurn_leaves (.inr ⟨q, hs, rfl⟩) (step_engine_scheduled hs ▸ he)
  | .host a :: q => exact hostAct_leaves hs (step_host hs ▸ he)

end Sys2Proof.Proofs

namespace Sys2Proof.Settled

open Sys2Proof Sys2Proof.Machine Sys2Proof.Claims Sys2Proof.Proofs

/-- Settles O55: the rows of the table that a turn is within. -/
theorem runAndProgramChangeOnlyAsAllowed : Obligations.RunAndProgramChangeOnlyAsAllowed := by
  intro s t he
  have hleaves := step_leaves he
  generalize t.imem = p, t.run = r at hleaves ⊢
  cases hleaves with
  | kept => exact ⟨absurd rfl, absurd rfl⟩
  | runStarted hrest hs => exact ⟨fun _ => ⟨hrest, _, .inl hs⟩, fun _ => .inl ⟨hrest, _, _, .inl ⟨hs, rfl⟩⟩⟩
  | stepStarted hrest hs => exact ⟨fun _ => ⟨hrest, _, .inr hs⟩, fun _ => .inl ⟨hrest, _, _, .inr ⟨hs, rfl⟩⟩⟩
  | runHalted hr ht => exact ⟨absurd rfl, fun _ => .inr (.inl ⟨hr, ⟨_, ht⟩, rfl⟩)⟩
  | stepHalted hr hs => exact ⟨absurd rfl, fun _ => .inr (.inr (.inl ⟨hr, rfl, .inl ⟨_, hs⟩⟩))⟩
  | advanceHalted hr ha ht => exact ⟨absurd rfl, fun _ => .inr (.inr (.inl ⟨hr, rfl, .inr ⟨ha, _, ht⟩⟩))⟩
  | stopped hr hs => exact ⟨absurd rfl, fun _ => .inr (.inr (.inr (.inl ⟨hr, ⟨_, hs⟩, rfl⟩)))⟩
  | reset hs => exact ⟨absurd rfl, fun _ => .inr (.inr (.inr (.inr ⟨⟨_, hs⟩, rfl⟩)))⟩

end Sys2Proof.Settled
end

section
/-! SUPPORT. The decoder as the inverse of the encoder. For each format, when its reader answers and what; then, once over
the opcode map of 30_encoding.md R310, which format's reader the decoder is. -/

namespace Sys2Proof.Proofs

open Sys2Proof Sys2Proof.Machine Sys2Proof.Claims

variable {f g : Fields} {i : Instr}

/-! ## When a check of the decoder passes -/

theorem except_bind_eq_ok {α β ε : Type} {x : Except ε α} {k : α → Except ε β} {b : β} :
    (x >>= k) = .ok b ↔ ∃ a, x = .ok a ∧ k a = .ok b := by
  cases x with
  | error e => exact ⟨nofun, fun ⟨_, h, _⟩ => nomatch h⟩
  | ok a => exact ⟨fun h => ⟨a, rfl, h⟩, fun ⟨_, h, hk⟩ => Except.ok.inj h ▸ hk⟩

theorem except_map_eq_ok {α β ε : Type} {x : Except ε α} {k : α → β} {b : β} :
    k <$> x = .ok b ↔ ∃ a, x = .ok a ∧ k a = b := by
  cases x <;> simp [Functor.map, Except.map]

@[simp] theorem require_eq_ok {b : Bool} {why : Reject} {u : Unit} : require b why = .ok u ↔ b = true := by
  cases b <;> simp [require]

@[simp] theorem noReg_eq_ok {c : BitVec 4} {u : Unit} : noReg c = .ok u ↔ c = 0 := by simp [noReg]

@[simp] theorem noMode_eq_ok {u : Unit} : noMode f = .ok u ↔ f.m = false := by simp [noMode]

@[simp] theorem noImm_eq_ok {u : Unit} : noImm f = .ok u ↔ f.imm = 0 := by simp [noImm]

@[simp] theorem plainWord_eq_ok {u : Unit} : plainWord f = .ok u ↔ f.rsv = 0 ∧ f.b = false := by
  simp [plainWord, except_bind_eq_ok]

@[simp] theorem usedReg_eq_ok {c : BitVec 4} {r : Reg} : usedReg c = .ok r ↔ c = r.code := by
  constructor
  · intro h
    unfold usedReg at h
    split at h
    · rename_i q hq
      rw [← Reg.code_of_ofCode hq, Except.ok.inj h]
    · cases h
  · rintro rfl
    exact usedReg_code r

@[simp] theorem readOp2_eq_ok_reg {r : Reg} :
    readOp2 f = .ok (.reg r) ↔ f.m = false ∧ f.rb = r.code ∧ f.imm = 0 := by
  cases hm : f.m <;> simp [readOp2, hm, except_bind_eq_ok, except_map_eq_ok]

@[simp] theorem readOp2_eq_ok_imm {v : Word} : readOp2 f = .ok (.imm v) ↔ f.m = true ∧ f.rb = 0 ∧ f.imm = v := by
  cases hm : f.m <;> simp [readOp2, hm, except_bind_eq_ok, except_map_eq_ok]

theorem exists_op2 {P : Op2 → Prop} : (∃ o, P o) ↔ (∃ r, P (.reg r)) ∨ ∃ v, P (.imm v) := by
  constructor
  · rintro ⟨r | v, h⟩
    · exact .inl ⟨r, h⟩
    · exact .inr ⟨v, h⟩
  · rintro (⟨r, h⟩ | ⟨v, h⟩)
    · exact ⟨_, h⟩
    · exact ⟨_, h⟩

/-! ## When the reader of a format answers

On the fields its writer writes, with the operands written. Both sides come down to the same checks on single fields: the
reader's by the lemmas above, the writer's field by field. -/

theorem fields_eq_iff : f = g ↔ f.opc = g.opc ∧ f.rd = g.rd ∧ f.ra = g.ra ∧ f.rb = g.rb ∧ f.m = g.m ∧ f.b = g.b ∧
    f.rsv = g.rsv ∧ f.imm = g.imm := by
  cases f
  cases g
  rw [Fields.mk.injEq]

theorem readN_eq_ok {k : Instr} :
    readN f k = .ok i ↔ f = putN f.opc ∧ k = i := by
  simp [readN, putN, fields_eq_iff, except_bind_eq_ok, except_map_eq_ok]
  grind

theorem readNB_eq_ok {k : Bool → Instr} :
    readNB f k = .ok i ↔ ∃ b, f = putNB f.opc b ∧ k b = i := by
  cases hb : f.b <;>
    simp [readNB, putNB, putN, fields_eq_iff, hb, except_bind_eq_ok, except_map_eq_ok]
  all_goals grind

theorem readDI_eq_ok {k : Reg → Word → Instr} :
    readDI f k = .ok i ↔ ∃ r v, f = putDI f.opc r v ∧ k r v = i := by
  simp [readDI, putDI, putN, fields_eq_iff, except_bind_eq_ok, except_map_eq_ok]
  grind

theorem readSI_eq_ok {k : Reg → Word → Instr} :
    readSI f k = .ok i ↔ ∃ r v, f = putSI f.opc r v ∧ k r v = i := by
  simp [readSI, putSI, putN, fields_eq_iff, except_bind_eq_ok, except_map_eq_ok]
  grind

theorem readDS_eq_ok {k : Reg → Reg → Instr} :
    readDS f k = .ok i ↔ ∃ r q, f = putDS f.opc r q ∧ k r q = i := by
  simp [readDS, putDS, putN, fields_eq_iff, except_bind_eq_ok, except_map_eq_ok]
  grind

theorem readSS_eq_ok {k : Reg → Reg → Instr} :
    readSS f k = .ok i ↔ ∃ r q, f = putSS f.opc r q ∧ k r q = i := by
  simp [readSS, putSS, putN, fields_eq_iff, except_bind_eq_ok, except_map_eq_ok]
  grind

theorem readDSS_eq_ok {k : Reg → Reg → Reg → Instr} :
    readDSS f k = .ok i ↔ ∃ r q p, f = putDSS f.opc r q p ∧ k r q p = i := by
  simp [readDSS, putDSS, putN, fields_eq_iff, except_bind_eq_ok, except_map_eq_ok]
  grind

theorem readDSI_eq_ok {k : Reg → Reg → Word → Instr} :
    readDSI f k = .ok i ↔ ∃ r q v, f = putDSI f.opc r q v ∧ k r q v = i := by
  simp [readDSI, putDSI, putN, fields_eq_iff, except_bind_eq_ok, except_map_eq_ok]
  grind

theorem readD_eq_ok {k : Reg → Instr} :
    readD f k = .ok i ↔ ∃ r, f = putD f.opc r ∧ k r = i := by
  simp [readD, putD, putN, fields_eq_iff, except_bind_eq_ok, except_map_eq_ok]
  grind

theorem readS_eq_ok {k : Reg → Instr} :
    readS f k = .ok i ↔ ∃ r, f = putS f.opc r ∧ k r = i := by
  simp [readS, putS, putN, fields_eq_iff, except_bind_eq_ok, except_map_eq_ok]
  grind

theorem readI_eq_ok {k : Word → Instr} :
    readI f k = .ok i ↔ ∃ v, f = putI f.opc v ∧ k v = i := by
  simp [readI, putI, putN, fields_eq_iff, except_bind_eq_ok, except_map_eq_ok]
  grind

theorem readDSO_eq_ok {k : Reg → Reg → Op2 → Instr} :
    readDSO f k = .ok i ↔ ∃ r q o, f = putDSO f.opc r q o ∧ k r q o = i := by
  simp [readDSO, putDSO, putDS, putOp2, putN, fields_eq_iff, except_bind_eq_ok, except_map_eq_ok, exists_op2]
  grind

theorem readDO_eq_ok {k : Reg → Op2 → Instr} :
    readDO f k = .ok i ↔ ∃ r o, f = putDO f.opc r o ∧ k r o = i := by
  simp [readDO, putDO, putD, putOp2, putN, fields_eq_iff, except_bind_eq_ok, except_map_eq_ok, exists_op2]
  grind

theorem readSO_eq_ok {k : Reg → Op2 → Instr} :
    readSO f k = .ok i ↔ ∃ r o, f = putSO f.opc r o ∧ k r o = i := by
  simp [readSO, putSO, putS, putOp2, putN, fields_eq_iff, except_bind_eq_ok, except_map_eq_ok, exists_op2]
  grind

/-! ## The decoder over the opcode map -/

/-- `r` is what the reader of a format answers on `f`, for the instructions that the encoder writes in that format under the
opcode of `f`; no format stands for a reserved opcode (R309, R310, R313). -/
inductive ReadBy (f : Fields) : Option Format → Except Reject Instr → Prop
  | reserved : ReadBy f none (.error .reservedOpcode)
  | N {k : Instr} (h : encodeFields k = putN f.opc) :
    ReadBy f (some .N) (readN f k)
  | NB {k : Bool → Instr} (h : ∀ b, encodeFields (k b) = putNB f.opc b) :
    ReadBy f (some .NB) (readNB f k)
  | DI {k : Reg → Word → Instr} (h : ∀ r v, encodeFields (k r v) = putDI f.opc r v) :
    ReadBy f (some .DI) (readDI f k)
  | SI {k : Reg → Word → Instr} (h : ∀ r v, encodeFields (k r v) = putSI f.opc r v) :
    ReadBy f (some .SI) (readSI f k)
  | DS {k : Reg → Reg → Instr} (h : ∀ r q, encodeFields (k r q) = putDS f.opc r q) :
    ReadBy f (some .DS) (readDS f k)
  | SS {k : Reg → Reg → Instr} (h : ∀ r q, encodeFields (k r q) = putSS f.opc r q) :
    ReadBy f (some .SS) (readSS f k)
  | DSS {k : Reg → Reg → Reg → Instr} (h : ∀ r q p, encodeFields (k r q p) = putDSS f.opc r q p) :
    ReadBy f (some .DSS) (readDSS f k)
  | DSI {k : Reg → Reg → Word → Instr} (h : ∀ r q v, encodeFields (k r q v) = putDSI f.opc r q v) :
    ReadBy f (some .DSI) (readDSI f k)
  | D {k : Reg → Instr} (h : ∀ r, encodeFields (k r) = putD f.opc r) :
    ReadBy f (some .D) (readD f k)
  | S {k : Reg → Instr} (h : ∀ r, encodeFields (k r) = putS f.opc r) :
    ReadBy f (some .S) (readS f k)
  | I {k : Word → Instr} (h : ∀ v, encodeFields (k v) = putI f.opc v) :
    ReadBy f (some .I) (readI f k)
  | DSO {k : Reg → Reg → Op2 → Instr} (h : ∀ r q o, encodeFields (k r q o) = putDSO f.opc r q o) :
    ReadBy f (some .DSO) (readDSO f k)
  | DO {k : Reg → Op2 → Instr} (h : ∀ r o, encodeFields (k r o) = putDO f.opc r o) :
    ReadBy f (some .DO) (readDO f k)
  | SO {k : Reg → Op2 → Instr} (h : ∀ r o, encodeFields (k r o) = putSO f.opc r o) :
    ReadBy f (some .SO) (readSO f k)

/-- The decoder reads each opcode's word in the format of R310. For each of the 256 opcodes the two maps compute to a format and
to its reader, and the encoder of the instruction the reader names computes to the writer of that format. -/
theorem decodeFields_readBy (f : Fields) : ReadBy f (formatOf f.opc) (decodeFields f) := by
  have hopc : f.opc = BitVec.ofNat 8 f.opc.toNat := by simp
  have hlt : f.opc.toNat < 256 := f.opc.isLt
  unfold decodeFields formatOf
  generalize f.opc.toNat = n at hopc hlt
  interval_cases n
  all_goals constructor
  all_goals
    intros
    rw [hopc]
    rfl

/-- What a reader answers is encoded as the fields it read (R308, R314). -/
theorem encodeFields_of_readBy {o : Option Format} {r : Except Reject Instr} (h : ReadBy f o r) (hr : r = .ok i) :
    encodeFields i = f := by
  cases h with
  | reserved => cases hr
  | N h =>
    obtain ⟨hf, rfl⟩ := readN_eq_ok.1 hr
    rw [h, ← hf]
  | NB h =>
    obtain ⟨b, hf, rfl⟩ := readNB_eq_ok.1 hr
    rw [h, ← hf]
  | DI h =>
    obtain ⟨r, v, hf, rfl⟩ := readDI_eq_ok.1 hr
    rw [h, ← hf]
  | SI h =>
    obtain ⟨r, v, hf, rfl⟩ := readSI_eq_ok.1 hr
    rw [h, ← hf]
  | DS h =>
    obtain ⟨r, q, hf, rfl⟩ := readDS_eq_ok.1 hr
    rw [h, ← hf]
  | SS h =>
    obtain ⟨r, q, hf, rfl⟩ := readSS_eq_ok.1 hr
    rw [h, ← hf]
  | DSS h =>
    obtain ⟨r, q, p, hf, rfl⟩ := readDSS_eq_ok.1 hr
    rw [h, ← hf]
  | DSI h =>
    obtain ⟨r, q, v, hf, rfl⟩ := readDSI_eq_ok.1 hr
    rw [h, ← hf]
  | D h =>
    obtain ⟨r, hf, rfl⟩ := readD_eq_ok.1 hr
    rw [h, ← hf]
  | S h =>
    obtain ⟨r, hf, rfl⟩ := readS_eq_ok.1 hr
    rw [h, ← hf]
  | I h =>
    obtain ⟨v, hf, rfl⟩ := readI_eq_ok.1 hr
    rw [h, ← hf]
  | DSO h =>
    obtain ⟨r, q, o, hf, rfl⟩ := readDSO_eq_ok.1 hr
    rw [h, ← hf]
  | DO h =>
    obtain ⟨r, o, hf, rfl⟩ := readDO_eq_ok.1 hr
    rw [h, ← hf]
  | SO h =>
    obtain ⟨r, o, hf, rfl⟩ := readSO_eq_ok.1 hr
    rw [h, ← hf]

/-- What the encoder writes is read back; operand 2's form must be known before the opcode of its fields computes
(R301, R304-R306, R309, R310). -/
theorem decodeFields_encodeFields (i : Instr) : decodeFields (encodeFields i) = .ok i := by
  cases i with
  | halt | reset | debug | ret | pusha | popa | pushf | popf | cli | sti | iret =>
    exact readN_eq_ok.2 ⟨rfl, rfl⟩
  | nop b =>
    exact readNB_eq_ok.2 ⟨b, rfl, rfl⟩
  | load r v | ldr r v | lea r v =>
    exact readDI_eq_ok.2 ⟨r, v, rfl, rfl⟩
  | str r v | cmpi r v | testi r v =>
    exact readSI_eq_ok.2 ⟨r, v, rfl, rfl⟩
  | mov r q | ldri r q | swap r q | sqrt r q | abs r q | neg r q | not r q | popcnt r q | clz r q =>
    exact readDS_eq_ok.2 ⟨r, q, rfl, rfl⟩
  | stri r q | cmp r q | test r q =>
    exact readSS_eq_ok.2 ⟨r, q, rfl, rfl⟩
  | add r q p | sub r q p | mul r q p | div r q p | mod r q p | pow r q p | and r q p | or r q p | xor r q p
  | nand r q p | nor r q p =>
    exact readDSS_eq_ok.2 ⟨r, q, p, rfl, rfl⟩
  | addi r q v | subi r q v | muli r q v | divi r q v | modi r q v =>
    exact readDSI_eq_ok.2 ⟨r, q, v, rfl, rfl⟩
  | inc r | dec r | pop r =>
    exact readD_eq_ok.2 ⟨r, rfl, rfl⟩
  | push r =>
    exact readS_eq_ok.2 ⟨r, rfl, rfl⟩
  | jmp v | jeq v | jz v | jne v | jnz v | jlt v | jgt v | jle v | jge v | jc v | jnc v | jo v | jno v | call v
  | int v =>
    exact readI_eq_ok.2 ⟨v, rfl, rfl⟩
  | shl r q o | shr r q o | rol r q o | ror r q o =>
    cases o <;> exact readDSO_eq_ok.2 ⟨r, q, _, rfl, rfl⟩
  | setbit r o | clrbit r o | togbit r o =>
    cases o <;> exact readDO_eq_ok.2 ⟨r, _, rfl, rfl⟩
  | testbit r o =>
    cases o <;> exact readSO_eq_ok.2 ⟨r, _, rfl, rfl⟩

/-! ## Valid words -/

theorem fieldFits_used {c : BitVec 4} : fieldFits true c ↔ ∃ r : Reg, c = r.code := by
  have hlt : c.toNat < 10 ↔ (Reg.ofCode c).isSome = true := by rw [Reg.ofCode_isSome, decide_eq_true_iff]
  rw [fieldFits, if_pos rfl, hlt, Option.isSome_iff_exists]
  exact exists_congr fun r => ⟨fun h => (Reg.code_of_ofCode h).symm, fun h => h ▸ Reg.ofCode_code r⟩

theorem fieldFits_unused {c : BitVec 4} : fieldFits false c ↔ c = 0 := by simp [fieldFits]

/-- The checks of R312 after the opcode's, on fields and for the format found. -/
def FitsFormat (fmt : Format) (f : Fields) : Prop :=
  f.rsv = 0 ∧ (f.b = true → fmt = .NB) ∧ fieldFits fmt.usesRd f.rd ∧ fieldFits fmt.usesRa f.ra ∧
    (if fmt.hasOp2 then (if f.m then f.rb = 0 else fieldFits true f.rb ∧ f.imm = 0)
     else f.m = false ∧ fieldFits fmt.usesRb f.rb ∧ (fmt.usesImm = false → f.imm = 0))

/-- The format NB is NOP's alone (R307, R310). -/
theorem formatOf_eq_NB {opc : BitVec 8} : formatOf opc = some .NB ↔ opc = 0 := by
  revert opc
  decide

theorem validWord_iff {w : InstrWord} :
    ValidWord w ↔ ∃ fmt, formatOf (Fields.ofWord w).opc = some fmt ∧ FitsFormat fmt (Fields.ofWord w) := by
  have hNB := formatOf_eq_NB (opc := w.extractLsb' 56 8)
  unfold ValidWord FitsFormat Fields.ofWord
  cases hfmt : formatOf (w.extractLsb' 56 8) with
  | none => simp
  | some fmt =>
    rw [hfmt, Option.some_inj] at hNB
    simp only [Option.some_inj, exists_eq_left', hNB]
    rfl

/-- A reader answers exactly the fields that pass the checks of its format (R302, R304, R306-R309): its instruction exists where
the registers of its used fields do, and operand 2's form is chosen by M. -/
theorem readBy_answers_iff {fmt : Format} {r : Except Reject Instr} (h : ReadBy f (some fmt) r) :
    (∃ i, r = .ok i) ↔ FitsFormat fmt f := by
  cases h with
  | DSO | DO | SO =>
    cases hm : f.m <;>
      simp [readDSO, readDO, readSO, exists_op2, FitsFormat, Format.usesRd, Format.usesRa, Format.hasOp2, hm,
        fieldFits_used, fieldFits_unused, except_bind_eq_ok, except_map_eq_ok]
    all_goals grind
  | _ =>
    simp [readN, readNB, readDI, readSI, readDS, readSS, readDSS, readDSI, readD, readS, readI, FitsFormat,
      Format.usesRd, Format.usesRa, Format.usesRb, Format.hasOp2, Format.usesImm, fieldFits_used, fieldFits_unused,
      except_bind_eq_ok, except_map_eq_ok]
    grind

theorem decode_eq_reserved {w : InstrWord} (h : formatOf (Fields.ofWord w).opc = none) :
    decode w = .error .reservedOpcode := by
  have hread := decodeFields_readBy (Fields.ofWord w)
  rw [h] at hread
  generalize hr : decodeFields (Fields.ofWord w) = r at hread
  cases hread
  exact hr

end Sys2Proof.Proofs

namespace Sys2Proof.Settled

open Sys2Proof Sys2Proof.Machine Sys2Proof.Claims Sys2Proof.Proofs

/-- Settles O1: the fields of the encoded word are those the encoder wrote. -/
theorem encodeThenDecodeGivesInstruction : Obligations.EncodeThenDecodeGivesInstruction := by
  intro i
  rw [decode, ofWord_encode, decodeFields_encodeFields]

/-- Settles O2: the fields of the word are those of the instruction read. -/
theorem decodeThenEncodeGivesWord : Obligations.DecodeThenEncodeGivesWord := by
  intro w i h
  have hf : encodeFields i = Fields.ofWord w := encodeFields_of_readBy (decodeFields_readBy _) h
  rw [encode, hf, Fields.toWord_ofWord]

/-- Settles O3: by the format of the word's opcode. -/
theorem decoderAcceptsExactlyValidWords : Obligations.DecoderAcceptsExactlyValidWords := by
  intro w
  rw [validWord_iff]
  cases hfmt : formatOf (Fields.ofWord w).opc with
  | none => simp [decode_eq_reserved hfmt]
  | some fmt =>
    have hread := decodeFields_readBy (Fields.ofWord w)
    rw [hfmt] at hread
    simpa [decode] using readBy_answers_iff hread

end Sys2Proof.Settled
end

section
/-! SUPPORT. What a step of the engine leaves where it fetches a word that does not decode, and along the blank lines of an
auto-advance. -/

namespace Sys2Proof.Proofs

open Sys2Proof Sys2Proof.Machine Sys2Proof.Claims

variable {s s₀ : State} {w : InstrWord} {why : Reject}

/-! ## A step, in the terms of the statements -/

theorem step_of_enginesTurn (h : EnginesTurn s s₀) : step s = engineTurn s₀ := by
  rcases h with ⟨hs, rfl⟩ | ⟨q, hs, rfl⟩
  · exact step_engine hs
  · exact step_engine_scheduled hs

theorem engineTurn_running (h : s.run = .running) : engineTurn s = engineStep s := by rw [engineTurn, h]

theorem stepCommand_stepping (h : s.run = .stepping) :
    stepCommand s = andThen (engineStep s) fun t => .next (stillAdvancing t) := if_pos h

theorem complete_of_running (h : s.run ≠ .halted) : complete s = completed s := if_neg h

/-- The completion test and the bus record after an instruction other than HALT (R407). -/
theorem recordBus_complete (h : s.run ≠ .halted) : recordBus (complete s) = afterInstr s := by
  have hframe : completed s = { s with run := (completed s).run } := by
    unfold completed
    split <;> rfl
  rw [complete_of_running h, recordBus, afterInstr, hframe]
  rfl

/-- The mark that a Step command leaves after its instruction (R415; log entry 4). -/
theorem stillAdvancing_afterInstr (s : State) : stillAdvancing (afterInstr s) = afterStepped s := by
  have hmark : advances (afterInstr s) = decide ((afterInstr s).run = .stepping ∧
      (afterInstr s).imem[(afterInstr s).pc.toNat]? = some 0x0000040000000000) := by
    rw [Bool.eq_iff_iff, advances_eq_true, decide_eq_true_iff]
    rfl
  rw [stillAdvancing_eq, hmark]
  rfl

/-! ## A word that does not decode -/

/-- The step over a word that does not decode: its diagnostic, and pc one on (R403). -/
theorem engineStep_invalid (hrun : s.run ≠ .halted) (hw : fetch s = some w) (hd : decode w = .error why) :
    engineStep s = .next (afterInstr
      { s with out := s.out ++ [.diag (.unknownInstruction s.pc w)], pc := s.pc + 1 }) := by
  have hp : perform w s = .next (s.raise (.unknownInstruction s.pc w)).advance := by rw [perform, hd]
  have hrun' : (s.raise (.unknownInstruction s.pc w)).advance.run ≠ .halted := hrun
  rw [engineStep, hw]
  simp only [hp, andThen_next, recordBus_complete hrun']
  rfl

/-- The opcodes that R313 lists have no format in the map of R310. -/
theorem formatOf_reserved {opc : BitVec 8} (h : reservedOpcode opc.toNat) : formatOf opc = none := by
  revert opc
  unfold reservedOpcode
  decide

theorem assembleLine_unknown {labels : List (List Char × Nat)} {i : Nat} {line m : List Char} {toks : List (List Char)}
    (ht : tokens (content line) = m :: toks) (hm : isMnemonic m = false) :
    assembleLine labels i line = unknownMnemonicWord i := by
  have hlookup : mnemonicTable.lookup (upper m) = none := by simpa [isMnemonic] using hm
  simp only [assembleLine, ht, hlookup]

/-! ## Blank lines -/

/-- Auto-advance is in progress, no host action comes between, and `k` blank lines stand at pc (R415). -/
structure AtBlankLines (k : Nat) (s : State) : Prop where
  stepping : s.run = .stepping
  marked : s.advancing = true
  engines : s.sched = []
  untraced : s.par.traceBus = false
  bounded : s.imem.length < 2 ^ 32
  blank : ∀ j < k, s.imem[s.pc.toNat + j]? = some blankNopWord

theorem toNat_pc_add {k : Nat} (h : s.pc.toNat + k < 2 ^ 32) :
    (s.pc + BitVec.ofNat 32 k).toNat = s.pc.toNat + k := by
  rw [BitVec.toNat_add, BitVec.toNat_ofNat, Nat.add_mod_mod, Nat.mod_eq_of_lt h]

/-- One turn at a blank line: pc one on, then the completion test and the loop's condition again (R407, R415). -/
theorem step_blankLine {k : Nat} (h : AtBlankLines (k + 1) s) : step s = .next (stillAdvancing (complete s.advance)) := by
  have hfetch : fetch s = some blankNopWord := h.blank 0 k.succ_pos
  have hstep : engineStep s = .next (complete s.advance) := by
    have hp : perform blankNopWord s = .next s.advance := rfl
    have hbus : (complete s.advance).par.traceBus = false := by
      rw [complete_frame]
      exact h.untraced
    rw [engineStep, hfetch]
    simp only [hp, andThen_next, recordBus_off hbus]
  have hadv : advances s = true := advances_eq_true.2 ⟨h.stepping, hfetch⟩
  rw [step_engine h.engines]
  simp [engineTurn, h.stepping, h.marked, hadv, hstep]

/-- Where another blank line follows, the turn moves pc only, and the auto-advance goes on there. -/
theorem stillAdvancing_between {k : Nat} (h : AtBlankLines (k + 2) s) :
    stillAdvancing (complete s.advance) = s.advance ∧ AtBlankLines (k + 1) s.advance := by
  have hnext : s.imem[s.pc.toNat + 1]? = some blankNopWord := h.blank 1 (by omega)
  obtain ⟨hlt, _⟩ := List.getElem?_eq_some_iff.1 hnext
  have hpc : s.advance.pc.toNat = s.pc.toNat + 1 := toNat_pc_add (k := 1) (hlt.trans h.bounded)
  have hblank : ∀ j < k + 1, s.advance.imem[s.advance.pc.toNat + j]? = some blankNopWord := by
    intro j hj
    rw [hpc, Nat.add_assoc, Nat.add_comm 1 j]
    exact h.blank (j + 1) (by omega)
  have hcomplete : complete s.advance = s.advance := by
    have hrun : s.advance.run ≠ .halted := by simp [h.stepping]
    have hinside : ¬ s.advance.imem.length ≤ s.advance.pc.toNat := by
      rw [hpc]
      exact Nat.not_le.2 hlt
    rw [complete_of_running hrun, completed, if_neg hinside]
  have hadv : advances s.advance = s.advance.advancing := by
    rw [State.advance_advancing, h.marked, advances_eq_true]
    exact ⟨h.stepping, hblank 0 k.succ_pos⟩
  refine ⟨?_, { h with blank := hblank }⟩
  rw [hcomplete, stillAdvancing_eq, hadv]

/-- The turns over all blank lines at pc: pc moved on by their number, and then the two tests (R407, R415). -/
theorem turns_blankLines (k : Nat) {s : State} (h : AtBlankLines (k + 1) s) :
    turns (k + 1) s = .next (stillAdvancing (complete (s.setPc (s.pc + BitVec.ofNat 32 (k + 1))))) := by
  induction k generalizing s with
  | zero =>
    rw [turns_succ (step_blankLine h), turns_zero]
    rfl
  | succ k ih =>
    obtain ⟨hmoved, hrest⟩ := stillAdvancing_between h
    have hpc : s.pc + 1 + BitVec.ofNat 32 (k + 1) = s.pc + BitVec.ofNat 32 (k + 1 + 1) := by
      rw [BitVec.add_assoc, BitVec.add_comm 1, BitVec.ofNat_add (k + 1) 1]
      rfl
    rw [turns_succ (step_blankLine h), hmoved, ih hrest, State.advance_pc, hpc]
    rfl

end Sys2Proof.Proofs

namespace Sys2Proof.Settled

open Sys2Proof Sys2Proof.Machine Sys2Proof.Claims Sys2Proof.Proofs

/-- Settles O4: the map of R310 has no reserved opcode; both kinds of step over an invalid word are the engine's. -/
theorem invalidWordsOnlyRaiseDiagnostic : Obligations.InvalidWordsOnlyRaiseDiagnostic := by
  refine ⟨fun w h => decode_eq_reserved (formatOf_reserved h), ?_, ?_, fun _ _ _ _ _ => assembleLine_unknown⟩
  · intro s s₀ w why ht hrun hw hd
    obtain ⟨q, rfl⟩ := eq_setSched_of_enginesTurn ht
    have hne : (s.setSched q).run ≠ .halted := by simp [hrun]
    rw [step_of_enginesTurn ht, engineTurn_running (s := s.setSched q) hrun]
    exact engineStep_invalid (s := s.setSched q) hne hw hd
  · intro s q w why hs hrun hw hd
    have hne : (s.setSched q).run ≠ .halted := by simp [hrun]
    have hstep := engineStep_invalid (s := s.setSched q) hne hw hd
    have hcommand := stepCommand_stepping (s := s.setSched q) hrun
    rw [step_host hs, hostAct, hcommand, hstep, andThen_next, stillAdvancing_afterInstr]
    rfl

/-- Settles O12, by induction on the number of blank lines; then by what follows the last one. -/
theorem autoAdvanceSkipsBlankLines : Obligations.AutoAdvanceSkipsBlankLines := by
  intro k s hrun hadv hs hbus hlen hk hblank
  obtain ⟨k, rfl⟩ := Nat.exists_eq_succ_of_ne_zero hk.ne'
  have hturns := turns_blankLines k ⟨hrun, hadv, hs, hbus, hlen, hblank⟩
  generalize hu : s.setPc (s.pc + BitVec.ofNat 32 (k + 1)) = u at hturns
  have hne : u.run ≠ .halted := by simp [← hu, hrun]
  have himem : u.imem = s.imem := by simp [← hu]
  have hpc (hle : s.pc.toNat + (k + 1) ≤ s.imem.length) : u.pc.toNat = s.pc.toNat + (k + 1) := by
    rw [← hu]
    exact toNat_pc_add (hle.trans_lt hlen)
  rw [complete_of_running hne] at hturns
  constructor
  · intro w hw hother
    obtain ⟨hlt, _⟩ := List.getElem?_eq_some_iff.1 hw
    have hinside : ¬ u.imem.length ≤ u.pc.toNat := by
      rw [himem, hpc hlt.le]
      exact Nat.not_le.2 hlt
    have hends : advances u = false := by
      rw [Bool.eq_false_iff, ne_eq, advances_eq_true, himem, hpc hlt.le, hw]
      exact fun ⟨_, hblank⟩ => hother (Option.some.inj hblank)
    rw [hturns, completed, if_neg hinside, stillAdvancing_eq, hends, ← hu]
    rfl
  · intro hend
    have houtside : u.imem.length ≤ u.pc.toNat := by rw [himem, hpc hend.le, hend]
    rw [hturns, completed, if_pos houtside, stillAdvancing_eq, ← hu]
    rfl

/-- Settles O5, row by row: the text is assembled by evaluation, and the word is that of the instruction named. -/
theorem exampleEncodingsHold : Obligations.ExampleEncodingsHold :=
  ⟨⟨by decide +kernel, rfl⟩, ⟨by decide +kernel, rfl⟩, ⟨by decide +kernel, rfl⟩, ⟨by decide +kernel, rfl⟩,
    ⟨by decide +kernel, rfl⟩, ⟨by decide +kernel, rfl⟩, ⟨by decide +kernel, rfl⟩, ⟨by decide +kernel, rfl⟩,
    ⟨by decide +kernel, rfl⟩, ⟨by decide +kernel, rfl⟩⟩

end Sys2Proof.Settled
end

section
/-! SUPPORT. A turn of the engine and the host's commands, in the terms of the statements (40_execution_cycle.md R401-R418). -/

namespace Sys2Proof.Proofs

open Sys2Proof Sys2Proof.Machine Sys2Proof.Claims

variable {s s₀ t u : State} {w : InstrWord} {i : Instr} {q : List Turn}

/-! ## The end of a step -/

/-- After HALT the completion test finds the run ended already, and changes nothing (R407). -/
theorem complete_eq_completed (s : State) : complete s = completed s := by
  by_cases h : s.run = .halted
  · have hsame : { s with run := .halted } = s := by rw [← h]
    rw [complete, if_pos h, completed, hsame, ite_self]
  · exact complete_of_running h

/-- The completion test and the bus record after any instruction (R407). -/
theorem recordBus_complete_eq (s : State) : recordBus (complete s) = afterInstr s := by
  have hframe : completed s = { s with run := (completed s).run } := by rw [← complete_eq_completed, ← complete_frame]
  rw [complete_eq_completed, recordBus, afterInstr, hframe]
  rfl

theorem completed_ended (h : t.imem.length ≤ t.pc.toNat) : (completed t).run = .halted := by rw [completed, if_pos h]

/-- The test of R407 is on the state that the step leaves: neither it nor the bus record writes pc or the program. -/
theorem recordBus_complete_ended (h : (recordBus (complete u)).imem.length ≤ (recordBus (complete u)).pc.toNat) :
    (recordBus (complete u)).run = .halted := by
  rw [recordBus_frame, complete_frame] at h
  rw [recordBus_frame]
  exact complete_eq_completed u ▸ completed_ended h

/-! ## The engine's step -/

/-- The step over a word that decodes (R401). -/
theorem engineStep_decoded (hw : fetch s = some w) (hd : decode w = .ok i) :
    engineStep s = andThen (exec i s) fun t => .next (afterInstr t) := by
  have hp : perform w s = exec i s := by rw [perform, hd]
  simp only [engineStep, hw, hp, recordBus_complete_eq]

/-- A fetch at or beyond the end of the program (R408). -/
theorem engineStep_beyond (h : s.imem.length ≤ s.pc.toNat) : engineStep s = .next (s.setRun .halted) := by
  have hfetch : fetch s = none := List.getElem?_eq_none h
  rw [engineStep, hfetch]

/-- A step that leaves pc at or beyond the end of the program has ended the run (R407, R408). -/
theorem engineStep_ended (he : engineStep s = .next t) (h : t.imem.length ≤ t.pc.toNat) : t.run = .halted := by
  rcases engineStep_cases he with ⟨_, rfl⟩ | ⟨w, why, _, _, rfl⟩ | ⟨w, i, u, _, _, _, rfl⟩
  · rfl
  · exact recordBus_complete_ended h
  · exact recordBus_complete_ended h

/-! ## Turns -/

/-- The engine's turn in RUNNING (R411). -/
theorem step_running (ht : EnginesTurn s s₀) (hr : s.run = .running) : step s = engineStep s₀ := by
  obtain ⟨q, rfl⟩ := eq_setSched_of_enginesTurn ht
  rw [step_of_enginesTurn ht]
  exact engineTurn_running (s := s.setSched q) hr

/-- A Step command in STEPPING (R415). -/
theorem step_stepCommand (hs : s.sched = .host .step :: q) (hr : s.run = .stepping) :
    step s = andThen (engineStep (s.setSched q)) fun t => .next (stillAdvancing t) := by
  rw [step_host hs]
  exact stepCommand_stepping (s := s.setSched q) hr

/-- A Step command in STEPPING at a word that decodes (R401, R415). -/
theorem step_stepCommand_decoded (hs : s.sched = .host .step :: q) (hr : s.run = .stepping)
    (hw : s.imem[s.pc.toNat]? = some w) (hd : decode w = .ok i) :
    step s = andThen (exec i (s.setSched q)) fun t => .next (afterStepped t) := by
  rw [step_stepCommand hs hr, engineStep_decoded (s := s.setSched q) hw hd]
  cases exec i (s.setSched q) with
  | next t => exact congrArg Host.Outcome.next (stillAdvancing_afterInstr t)
  | fault f => rfl
  | refused r => rfl

/-- A Step command in any other state (R411). -/
theorem step_stepCommand_ignored (hs : s.sched = .host .step :: q) (hr : s.run ≠ .stepping) :
    step s = .next (s.setSched q) := by
  rw [step_host hs]
  exact if_neg (c := (s.setSched q).run = .stepping) hr

/-! ## The engine states -/

/-- RUN is one of the five states of R119: no program executes, or one does. -/
theorem atRest_iff (s : State) : s.atRest ↔ ¬ (s.run = .running ∨ s.run = .stepping) := by
  unfold State.atRest
  cases s.run <;> decide

theorem not_vectors_of_atRest (h : s.atRest) : ¬ Vectors s := fun ⟨_, _, hr, _⟩ => (atRest_iff s).1 h hr

/-- Stop where a program executes (R416): STOPPED has no auto-advance. -/
theorem stopCommand_of_executing (h : s.run = .running ∨ s.run = .stepping) :
    stopCommand s = { s with out := s.out ++ [.stopMarker], run := .stopped, advancing := false } := if_pos h

theorem stopCommand_of_atRest (h : s.atRest) : stopCommand s = s := if_neg ((atRest_iff s).1 h)

theorem engineTurn_of_atRest (h : s.atRest) : engineTurn s = .next s := by
  unfold engineTurn
  rcases h with h | h | h <;> rw [h]

/-- Where auto-advance is over, the engine waits for the next command (R415; log entry 3). -/
theorem engineTurn_waiting (hr : s.run = .stepping) (ha : s.advancing = false) : engineTurn s = .next s := by
  have hkept : s.setAdvancing false = s := by
    rw [← ha]
    rfl
  simp [engineTurn, hr, ha, hkept]

/-- No auto-advance is marked but in STEPPING (R415). -/
theorem advances_eq_false (h : s.run ≠ .stepping) : advances s = false :=
  Bool.eq_false_iff.2 fun ha => h (advances_eq_true.1 ha).1

/-! ## Run, Step-start and Reset -/

/-- External reset of a state, in the terms of the statements (70_reset_and_hazards.md R1300). -/
theorem stillAdvancing_externalReset (s : State) (r : RunState) :
    stillAdvancing ((externalReset s).setRun r) =
      resetFrom s r s.imem (advances ((externalReset s).setRun r)) s.sched := rfl

/-- A start with a program of an admitted length: R413, R414 where it is accepted, no effect where it is not. -/
theorem start_admitted {mode : RunState} {p : List InstrWord} (hp : p.length < 2 ^ 32) :
    start mode p s = .next (if s.run = .running ∨ s.run = .stepping then s
      else resetFrom s (if p = [] then .halted else mode) p
        (advances ((loaded p s).setRun (if p = [] then .halted else mode))) s.sched) := by
  have hempty : (if p.isEmpty then RunState.halted else mode) = if p = [] then .halted else mode := by cases p <;> rfl
  by_cases h : s.run = .running ∨ s.run = .stepping
  · have hnot : ¬ acceptsStart s = true := fun ha => (atRest_iff s).1 ((acceptsStart_iff s).1 ha) h
    rw [start, if_neg hnot, if_pos h]
  · have hacc : acceptsStart s = true := (acceptsStart_iff s).2 ((atRest_iff s).2 h)
    rw [start, if_pos hacc, if_pos hp, if_neg h, hempty]
    rfl

/-- Run never leaves an auto-advance (R413). -/
theorem advances_run (p : List InstrWord) (s : State) :
    advances ((loaded p s).setRun (if p = [] then .halted else .running)) = false := by
  apply advances_eq_false
  rw [State.setRun_run]
  split <;> decide

/-- Step-start leaves one where the first line is blank (R414). -/
theorem advances_stepStart (p : List InstrWord) (s : State) :
    advances ((loaded p s).setRun (if p = [] then .halted else .stepping)) =
      decide (p[0]? = some 0x0000040000000000) := by
  rw [Bool.eq_iff_iff, advances_eq_true, decide_eq_true_iff]
  cases p with
  | nil => simp
  | cons w p => exact and_iff_right rfl

end Sys2Proof.Proofs

namespace Sys2Proof.Settled

open Sys2Proof Sys2Proof.Machine Sys2Proof.Claims Sys2Proof.Proofs

/-- Settles O13: the test of R407 is the last thing that a step does to RUN. -/
theorem naturalTermination : Obligations.NaturalTermination := by
  refine ⟨?_, ?_, ?_, ?_⟩
  · intro s s₀ t ht hr he hend
    exact engineStep_ended (step_running ht hr ▸ he) hend
  · intro s s₀ ht hr hend
    obtain ⟨q, rfl⟩ := eq_setSched_of_enginesTurn ht
    rw [step_running ht hr]
    exact engineStep_beyond (s := s.setSched q) hend
  · intro s t q hs hr he hend
    obtain ⟨u, hu, ⟨⟩⟩ := andThen_eq_next.1 (step_stepCommand hs hr ▸ he)
    exact engineStep_ended (t := u) hu hend
  · intro s q hs hr hend
    rw [step_stepCommand hs hr, engineStep_beyond (s := s.setSched q) hend]
    rfl

/-- Settles O9: a turn at rest is the engine's, which changes nothing, or a command that is not accepted there. -/
theorem nothingExecutesAtRest : Obligations.NothingExecutesAtRest := by
  refine ⟨fun s hrest hstart hreset => ⟨fun scan ascii q hs => ?_, fun hkey => ?_⟩, fun s s₀ ht hr ha => ?_⟩
  · have hnot := mt (vectorEnabled_keyed s scan ascii q).1 (not_vectors_of_atRest hrest)
    rw [step_key hs, if_neg hnot]
    rfl
  · match hs : s.sched with
    | [] =>
      rw [step_engine hs, engineTurn_of_atRest hrest, List.tail_nil, ← hs]
    | .engine :: q =>
      rw [step_engine_scheduled hs]
      exact engineTurn_of_atRest (s := s.setSched q) hrest
    | .host (.run p) :: q => exact absurd ⟨p, q, .inl hs⟩ hstart
    | .host (.stepStart p) :: q => exact absurd ⟨p, q, .inr hs⟩ hstart
    | .host .step :: q =>
      exact step_stepCommand_ignored hs fun hr => (atRest_iff s).1 hrest (.inr hr)
    | .host .stop :: q =>
      rw [step_host hs]
      exact congrArg Host.Outcome.next (stopCommand_of_atRest (s := s.setSched q) hrest)
    | .host .reset :: q => exact absurd ⟨q, hs⟩ hreset
    | .host (.key scan ascii) :: q => exact absurd hs (hkey scan ascii q)
    | .host (.speed n) :: q =>
      rw [step_host hs]
      rfl
  · obtain ⟨q, rfl⟩ := eq_setSched_of_enginesTurn ht
    rw [step_of_enginesTurn ht]
    exact engineTurn_waiting (s := s.setSched q) hr ha

/-- Settles O7: a start is external reset of the state with the program loaded, Reset of the state as it is. -/
theorem startAndResetCommands : Obligations.StartAndResetCommands := by
  refine ⟨fun s p q hs hp => ?_, fun s p q hs hp => ?_, fun s q hs => ?_, fun _ => rfl, fun p => ?_⟩
  · rw [step_host hs, hostAct, start_admitted hp, advances_run]
    rfl
  · rw [step_host hs, hostAct, start_admitted hp, advances_stepStart]
    rfl
  · have hidle : advances ((externalReset (s.setSched q)).setRun .idle) = false := advances_eq_false nofun
    rw [step_host hs, hostAct, resetCommand, stillAdvancing_externalReset, hidle]
    rfl
  · rw [pixel, Memory.read_nil, ite_self]

/-- Settles O8: Stop by the two cases of its test. -/
theorem stopAndSpeedCommands : Obligations.StopAndSpeedCommands := by
  refine ⟨fun s q hs => ?_, fun s n q hs => ?_⟩
  · rw [step_host hs]
    by_cases h : s.run = .running ∨ s.run = .stepping
    · rw [if_pos h]
      exact congrArg Host.Outcome.next (stopCommand_of_executing (s := s.setSched q) h)
    · rw [if_neg h]
      exact congrArg Host.Outcome.next (stopCommand_of_atRest (s := s.setSched q) ((atRest_iff s).2 h))
  · rw [step_host hs]
    rfl

/-- Settles O10: the engine's step over a word that decodes. -/
theorem stepRunsDecodedInstruction : Obligations.StepRunsDecodedInstruction := by
  intro s s₀ w i ht hr hw hd
  obtain ⟨q, rfl⟩ := eq_setSched_of_enginesTurn ht
  rw [step_running ht hr, engineStep_decoded (s := s.setSched q) hw hd]
  rfl

/-- Settles O11: the same step, and then the mark of the auto-advance. -/
theorem stepCommandRunsOneInstruction : Obligations.StepCommandRunsOneInstruction := by
  refine ⟨fun s q hs hr => step_stepCommand_ignored hs hr, fun s q w i hs hr hw hd => ?_⟩
  rw [step_stepCommand_decoded hs hr hw hd]
  rfl

end Sys2Proof.Settled
end

section
/-! SUPPORT. No instruction reads RUN, the mark of an auto-advance or the schedule (40_execution_cycle.md R410): every shared
operation, every instruction and the engine's step do the same in step mode as in run mode. Step mode is a map on states, and
one lemma per operation says that the operation commutes with it. -/

namespace Sys2Proof.Proofs

open Sys2Proof Sys2Proof.Machine Sys2Proof.Claims

/-- The state in step mode: RUN is STEPPING where it is RUNNING, the mark of an auto-advance and the schedule as given. -/
def inStepMode (b : Bool) (q : List Turn) (s : State) : State := { s with run := asStepping s.run, advancing := b, sched := q }

/-- An outcome in step mode: its next state, or the same refusal or fault. -/
def outcomeInStepMode (b : Bool) (q : List Turn) (o : Result) : Result := andThen o fun t => .next (inStepMode b q t)

/-- The operation answers in step mode what it answers in run mode. -/
def SameInStepMode (k : State → Result) : Prop :=
  ∀ (b : Bool) (q : List Turn) (s : State), k (inStepMode b q s) = outcomeInStepMode b q (k s)

variable {s t : State}

section
variable (b : Bool) (q : List Turn) (s : State)

/-! ## State operations -/

@[simp] theorem inStepMode_run : (inStepMode b q s).run = asStepping s.run := rfl
@[simp] theorem inStepMode_pc : (inStepMode b q s).pc = s.pc := rfl
@[simp] theorem inStepMode_imem : (inStepMode b q s).imem = s.imem := rfl
@[simp] theorem inStepMode_kbd : (inStepMode b q s).kbd = s.kbd := rfl
@[simp] theorem inStepMode_par : (inStepMode b q s).par = s.par := rfl
@[simp] theorem inStepMode_sched : (inStepMode b q s).sched = q := rfl

theorem reportRange_inStepMode (a : Word) : reportRange a (inStepMode b q s) = inStepMode b q (reportRange a s) := by
  rw [reportRange, reportRange, inStepMode_par]
  split <;> rfl

theorem afterRead_inStepMode (a : Word) : afterRead a (inStepMode b q s) = inStepMode b q (afterRead a s) := by
  unfold afterRead
  split
  · rfl
  · exact reportRange_inStepMode b q s a

theorem memWrite_inStepMode (a v : Word) : memWrite a v (inStepMode b q s) = inStepMode b q (memWrite a v s) := by
  unfold memWrite
  split
  · rfl
  · exact reportRange_inStepMode b q s a

theorem reportDivZero_inStepMode : reportDivZero (inStepMode b q s) = inStepMode b q (reportDivZero s) := by
  rw [reportDivZero, reportDivZero, inStepMode_par]
  split <;> rfl

theorem divByZero_inStepMode (rd : Reg) : divByZero rd (inStepMode b q s) = inStepMode b q (divByZero rd s) := by
  rw [divByZero, divByZero, inStepMode_par, reportDivZero_inStepMode]
  cases s.par.div0Flags <;> rfl

theorem pop_inStepMode : pop (inStepMode b q s) = (pop s).map fun (v, t) => (v, inStepMode b q t) := by
  rcases pop_cases s with ⟨hs, hp⟩ | ⟨v, rest, hs, hp⟩
  · rw [hp]
    exact pop_nil hs
  · rw [hp]
    exact pop_cons (s := inStepMode b q s) hs

theorem popEach_inStepMode (rs : List Reg) : popEach rs (inStepMode b q s) = inStepMode b q (popEach rs s) := by
  induction rs generalizing s with
  | nil => rfl
  | cons r rs ih =>
    rw [popEach, popEach, pop_inStepMode]
    cases pop s with
    | none => exact ih s
    | some p => exact ih (p.2.setReg r p.1)

theorem popFlags_inStepMode : popFlags (inStepMode b q s) = inStepMode b q (popFlags s) := by
  rw [popFlags, popFlags, pop_inStepMode]
  cases pop s <;> rfl

theorem popPc_inStepMode : popPc (inStepMode b q s) = inStepMode b q (popPc s) := by
  rw [popPc, popPc, pop_inStepMode]
  cases pop s <;> rfl

theorem interruptReturn_inStepMode : interruptReturn (inStepMode b q s) = inStepMode b q (interruptReturn s) := by
  rw [interruptReturn, popFlags_inStepMode, popPc_inStepMode]
  rfl

theorem kbdRead_inStepMode : kbdRead (inStepMode b q s) = inStepMode b q (kbdRead s) := by
  rw [kbdRead, kbdRead, inStepMode_kbd]
  cases s.kbd.queue <;> rfl

theorem screenDrawCircle_inStepMode : screenDrawCircle (inStepMode b q s) = inStepMode b q (screenDrawCircle s) := by
  have hradius : (inStepMode b q s).coord .r2 = s.coord .r2 := rfl
  rw [screenDrawCircle, screenDrawCircle, hradius]
  split <;> rfl

theorem performService_inStepMode (svc : Service) :
    performService svc (inStepMode b q s) = inStepMode b q (performService svc s) := by
  cases svc with
  | kbdRead => exact kbdRead_inStepMode b q s
  | screenDrawCircle => exact screenDrawCircle_inStepMode b q s
  | _ => rfl

/-! ## The end of a step -/

theorem complete_inStepMode : complete (inStepMode b q s) = inStepMode b q (complete s) := by
  rw [complete_eq_completed, complete_eq_completed, completed, completed, inStepMode_imem, inStepMode_pc]
  split <;> rfl

theorem recordBus_inStepMode : recordBus (inStepMode b q s) = inStepMode b q (recordBus s) := by
  rw [recordBus, recordBus, inStepMode_par]
  split <;> rfl

end

/-! ## Operations that answer an outcome -/

theorem SameInStepMode.next {f : State → State} (hf : ∀ b q s, f (inStepMode b q s) = inStepMode b q (f s)) :
    SameInStepMode fun s => .next (f s) := fun b q s => congrArg Host.Outcome.next (hf b q s)

theorem SameInStepMode.andThen {k l : State → Result} (hk : SameInStepMode k) (hl : SameInStepMode l) :
    SameInStepMode fun s => andThen (k s) l := by
  intro b q s
  show Machine.andThen (k (inStepMode b q s)) l = outcomeInStepMode b q (Machine.andThen (k s) l)
  rw [hk b q s]
  cases k s with
  | next t => exact hl b q t
  | fault r => rfl
  | refused r => rfl

theorem push_sameInStepMode (v : Word) : SameInStepMode (push v) := by
  intro b q s
  have hfull : (inStepMode b q s).stackFull = s.stackFull := rfl
  rw [push, push, hfull]
  cases s.stackFull <;> rfl

theorem pushAll_sameInStepMode (vs : List Word) : SameInStepMode (pushAll vs) := by
  induction vs with
  | nil => exact fun _ _ _ => rfl
  | cons v vs ih => exact (push_sameInStepMode v).andThen ih

theorem divOp_sameInStepMode (rd : Reg) (a d : Word) : SameInStepMode (divOp rd a d) := by
  intro b q s
  unfold divOp
  split
  · exact congrArg Host.Outcome.next (divByZero_inStepMode b q s rd)
  · split <;> rfl

theorem modOp_sameInStepMode (rd : Reg) (a d : Word) : SameInStepMode (modOp rd a d) := by
  intro b q s
  unfold modOp
  split
  · exact congrArg Host.Outcome.next (divByZero_inStepMode b q s rd)
  · rfl

theorem powOp_sameInStepMode (rd : Reg) (a e : Word) : SameInStepMode (powOp rd a e) := by
  intro b q s
  unfold powOp
  split <;> rfl

theorem branchIf_sameInStepMode (taken : Bool) (target : Word) : SameInStepMode (branchIf taken target) := by
  intro b q s
  cases taken <;> rfl

theorem loadFrom_sameInStepMode (rd : Reg) (a : Word) : SameInStepMode (loadFrom rd a) := by
  intro b q s
  rw [loadFrom, afterRead_inStepMode]
  rfl

theorem storeTo_sameInStepMode (a v : Word) : SameInStepMode (storeTo a v) :=
  .next (f := fun s => (memWrite a v s).advance) fun b q s => congrArg State.advance (memWrite_inStepMode b q s a v)

theorem execPop_sameInStepMode (rd : Reg) : SameInStepMode (execPop rd) := by
  intro b q s
  rw [execPop, execPop, pop_inStepMode]
  cases pop s <;> rfl

theorem execInt_sameInStepMode (n : Word) : SameInStepMode (execInt n) := by
  intro b q s
  have hservice : serviceOf n (inStepMode b q s) = serviceOf n s := rfl
  rw [execInt, execInt, hservice]
  cases serviceOf n s with
  | none => rfl
  | some svc => exact congrArg (fun t : State => Host.Outcome.next t.advance) (performService_inStepMode b q s svc)

/-- Every instruction does the same in step mode as in run mode (R410). -/
theorem exec_sameInStepMode (i : Instr) : SameInStepMode (exec i) := by
  intro b q s
  have hadvance : SameInStepMode fun s => .next s.advance := .next fun _ _ _ => rfl
  cases i with
  | ldr rd a => exact loadFrom_sameInStepMode rd a b q s
  | ldri rd ra => exact loadFrom_sameInStepMode rd (s.reg ra) b q s
  | str rs a => exact storeTo_sameInStepMode a (s.reg rs) b q s
  | stri rs ra => exact storeTo_sameInStepMode (s.reg ra) (s.reg rs) b q s
  | div rd ra rb => exact divOp_sameInStepMode rd (s.reg ra) (s.reg rb) b q s
  | divi rd ra v => exact divOp_sameInStepMode rd (s.reg ra) v b q s
  | mod rd ra rb => exact modOp_sameInStepMode rd (s.reg ra) (s.reg rb) b q s
  | modi rd ra v => exact modOp_sameInStepMode rd (s.reg ra) v b q s
  | pow rd ra rb => exact powOp_sameInStepMode rd (s.reg ra) (s.reg rb) b q s
  | jeq x | jz x | jne x | jnz x | jlt x | jgt x | jle x | jge x | jc x | jnc x | jo x | jno x =>
    exact branchIf_sameInStepMode _ x b q s
  | push rs => exact (push_sameInStepMode (s.reg rs)).andThen hadvance b q s
  | pushf => exact (push_sameInStepMode s.flags.pack).andThen hadvance b q s
  | pusha => exact (pushAll_sameInStepMode (generalRegs.map s.reg)).andThen hadvance b q s
  | call x =>
    have hjump : SameInStepMode fun s => .next (s.setPc x) := .next fun _ _ _ => rfl
    exact (push_sameInStepMode (s.pc + 1)).andThen hjump b q s
  | pop rd => exact execPop_sameInStepMode rd b q s
  | popa => exact congrArg (fun t : State => Host.Outcome.next t.advance) (popEach_inStepMode b q s generalRegs.reverse)
  | popf => exact congrArg (fun t : State => Host.Outcome.next t.advance) (popFlags_inStepMode b q s)
  | ret => exact congrArg Host.Outcome.next (popPc_inStepMode b q s)
  | iret => exact congrArg Host.Outcome.next (interruptReturn_inStepMode b q s)
  | int n => exact execInt_sameInStepMode n b q s
  | _ => rfl

theorem perform_sameInStepMode (w : InstrWord) : SameInStepMode (perform w) := by
  intro b q s
  unfold perform
  split
  · exact exec_sameInStepMode _ b q s
  · rfl

theorem engineStep_sameInStepMode : SameInStepMode engineStep := by
  intro b q s
  have hfetch : fetch (inStepMode b q s) = fetch s := rfl
  have hend : SameInStepMode fun t => .next (recordBus (complete t)) :=
    .next fun b q s => by rw [complete_inStepMode, recordBus_inStepMode]
  rw [engineStep, engineStep, hfetch]
  cases fetch s with
  | none => rfl
  | some w => exact (perform_sameInStepMode w).andThen hend b q s

/-! ## Turns -/

theorem run_succ_fault {M : Host.Core} {x : M.State} {r : M.Fault} (k : Nat) (h : M.step x = .fault r) :
    M.run (k + 1) x = .fault r := by
  simp [Host.Core.run, h]

theorem run_succ_refused {M : Host.Core} {x : M.State} {r : M.Refusal} (k : Nat) (h : M.step x = .refused r) :
    M.run (k + 1) x = .refused r := by
  simp [Host.Core.run, h]

theorem turns_succ_eq (k : Nat) (s : State) : turns (k + 1) s = andThen (step s) (turns k) := by
  cases h : step s with
  | next t => exact turns_succ h
  | fault r => exact run_succ_fault (M := Sys2Proof.core) k h
  | refused r => exact run_succ_refused (M := Sys2Proof.core) k h

/-- No engine step writes the schedule. -/
theorem engineStep_sched (he : engineStep s = .next t) : t.sched = s.sched := by
  rcases engineStep_cases he with ⟨_, rfl⟩ | ⟨w, why, _, _, rfl⟩ | ⟨w, i, u, _, _, hu, rfl⟩
  · rfl
  · rw [recordBus_frame, complete_frame]
    rfl
  · obtain ⟨v, p, rfl, hv, _⟩ := exec_eq_next hu
    rw [recordBus_frame, complete_frame]
    exact hv.sched

/-- A Step command after a run has ended has no effect (R411). -/
theorem step_inStepMode_halted (b : Bool) (q : List Turn) (hr : s.run = .halted) :
    step (inStepMode b (.host .step :: q) s) = .next (inStepMode b q s) := by
  have hnot : (inStepMode b q s).run ≠ .stepping := by simp [hr, asStepping]
  rw [step_host (inStepMode_sched b _ s)]
  exact if_neg hnot

/-- A Step command takes the step of run mode, and then marks whether a blank line follows (R410, R415). -/
theorem step_inStepMode_running (b : Bool) (q : List Turn) (hr : s.run = .running) :
    step (inStepMode b (.host .step :: q) s) =
      andThen (engineStep s) fun t => .next (inStepMode (advances (inStepMode b q t)) q t) := by
  have hstepping : (inStepMode b q s).run = .stepping := by simp [hr, asStepping]
  have hcommand : step (inStepMode b (.host .step :: q) s) = stepCommand (inStepMode b q s) :=
    step_host (inStepMode_sched b _ s)
  rw [hcommand, stepCommand_stepping hstepping, engineStep_sameInStepMode b q s]
  cases engineStep s <;> rfl

/-- `k` turns in run mode and `k` Step commands go the same way, until the run ends and after it (R410). -/
theorem turns_inStepMode (k : Nat) (b : Bool) {s : State} (hr : s.run = .running ∨ s.run = .halted) (hs : s.sched = []) :
    ∃ b', turns k (inStepMode b (List.replicate k (.host .step)) s) =
      andThen (turns k s) fun t => .next { t with run := asStepping t.run, advancing := b' } := by
  induction k generalizing b s with
  | zero =>
    refine ⟨b, ?_⟩
    rw [turns_zero, turns_zero, andThen_next, List.replicate_zero, inStepMode, ← hs]
  | succ k ih =>
    rw [turns_succ_eq, turns_succ_eq, List.replicate_succ, step_engine hs]
    rcases hr with hr | hr
    · rw [step_inStepMode_running b _ hr, engineTurn_running hr]
      cases he : engineStep s with
      | next t =>
        have hsched : t.sched = [] := (engineStep_sched he).trans hs
        exact ih _ ((engineStep_run he).imp_left fun h => h.trans hr) hsched
      | fault r | refused r => exact ⟨b, rfl⟩
    · have hrest : engineTurn s = .next s := by rw [engineTurn, hr]
      rw [step_inStepMode_halted b _ hr, hrest]
      exact ih b (.inr hr) hs

end Sys2Proof.Proofs

namespace Sys2Proof.Settled

open Sys2Proof Sys2Proof.Machine Sys2Proof.Claims Sys2Proof.Proofs

/-- Settles O59, by simulation: step mode is a map on states that every turn of the run commutes with. -/
theorem stepModeEqualsRunMode : Obligations.StepModeEqualsRunMode := by
  intro k s hr hs stepped
  have hstart : stepped = turns k (inStepMode s.advancing (List.replicate k (.host .step)) s) := by
    rw [inStepMode, hr]
    rfl
  obtain ⟨b, hk⟩ := turns_inStepMode k s.advancing (.inl hr) hs
  rw [hstart, hk]
  constructor
  · intro t ht
    rw [ht]
    exact ⟨_, rfl, rfl⟩
  · intro r hrefused
    rw [hrefused]
    rfl

end Sys2Proof.Settled
end

section
/-! SUPPORT. Register moves (41_data_movement.md R501, R502, R507, R508). -/

namespace Sys2Proof.Proofs

open Sys2Proof Sys2Proof.Machine Sys2Proof.Claims

theorem writeReg_writes (rd : Reg) (v : Word) (s : State) : Writes (writeReg rd v s) s rd v s.flags :=
  ⟨_, rfl, fun q => State.setReg_reg s rd q v, rfl⟩

/-- The registers after both writes of a SWAP (R508). The second write decides where both name one register, and there the two
sources are one. -/
theorem setReg_setReg_swapped (ra rb q : Reg) (s : State) :
    ((s.setReg ra (s.reg rb)).setReg rb (s.reg ra)).reg q =
      if q = ra then s.reg rb else if q = rb then s.reg ra else s.reg q := by
  rw [State.setReg_reg, State.setReg_reg]
  by_cases ha : q = ra
  · subst ha
    by_cases hb : q = rb
    · subst hb
      rw [if_pos rfl]
    · rw [if_neg hb, if_pos rfl, if_pos rfl]
  · rw [if_neg ha, if_neg ha]

end Sys2Proof.Proofs

namespace Sys2Proof.Settled

open Sys2Proof Sys2Proof.Machine Sys2Proof.Claims Sys2Proof.Proofs

/-- Settles O15: LOAD, MOV and LEA are one register write, SWAP two. -/
theorem registerMoves : Obligations.RegisterMoves := by
  refine ⟨fun _ _ => decode_wordDI rfl, fun _ _ => decode_wordDS rfl, fun _ _ => decode_wordDI rfl,
    fun _ _ => decode_wordDS rfl, fun s => ⟨?load, ?mov, ?lea, ?swap⟩⟩
  case load => exact fun rd imm => writeReg_writes rd imm s
  case mov => exact fun rd rs => writeReg_writes rd (s.reg rs) s
  case lea => exact fun rd addr => writeReg_writes rd addr s
  case swap => exact fun ra rb => ⟨_, rfl, fun q => setReg_setReg_swapped ra rb q s, rfl⟩

end Sys2Proof.Settled
end

section
/-! SUPPORT. Arithmetic (42_arithmetic.md R600-R616): the words of its formats, what the common ending and the shared operations
write, and the loops of POW and SQRT against the exact power and the exact root. -/

namespace Sys2Proof.Proofs

open Sys2Proof Sys2Proof.Machine Sys2Proof.Claims Sys2Proof.Settled

/-! ## Words, one lemma per format -/

section
variable {opc : BitVec 8} {rd ra rb : Reg} {v : Word} {i : Instr} {f : Fields}

theorem decode_of_encodeFields (h : encodeFields i = f) : decode f.toWord = .ok i :=
  h ▸ encodeThenDecodeGivesInstruction i

theorem decode_wordDSS (h : encodeFields i = putDSS opc rd ra rb) :
    decode (wordOf opc (regCode rd) (regCode ra) (regCode rb) 0 0 0) = .ok i := by
  have hw : wordOf opc (regCode rd) (regCode ra) (regCode rb) 0 0 0 = (putDSS opc rd ra rb).toWord := by
    rw [regCode_eq_code, regCode_eq_code, regCode_eq_code]; rfl
  rw [hw, decode_of_encodeFields h]

theorem decode_wordDSI (h : encodeFields i = putDSI opc rd ra v) :
    decode (wordOf opc (regCode rd) (regCode ra) 0 0 0 v) = .ok i := by
  have hw : wordOf opc (regCode rd) (regCode ra) 0 0 0 v = (putDSI opc rd ra v).toWord := by
    rw [regCode_eq_code, regCode_eq_code]; rfl
  rw [hw, decode_of_encodeFields h]

theorem decode_wordD (h : encodeFields i = putD opc rd) : decode (wordOf opc (regCode rd) 0 0 0 0 0) = .ok i := by
  have hw : wordOf opc (regCode rd) 0 0 0 0 0 = (putD opc rd).toWord := by
    rw [regCode_eq_code]; rfl
  rw [hw, decode_of_encodeFields h]

end

variable (rd : Reg) (a b v : Word) (f : Flags) (s : State)

/-! ## The common ending -/

/-- The common ending (R600), after the instruction has put out `out`. -/
theorem finish_writesOut (out : List OutRecord) :
    WritesOut (.next (finish rd v f { s with out := out })) s rd v (withZN f v) out :=
  ⟨_, rfl, fun q => State.setReg_reg _ rd q v, rfl⟩

/-- The common ending of an instruction that puts nothing out (R600). -/
theorem finish_writes : Writes (.next (finish rd v f s)) s rd v (withZN f v) := finish_writesOut rd v f s s.out

/-! ## Addition, subtraction, multiplication -/

theorem addOp_writes : Writes (addOp rd a b s) s rd (a + b)
    (withZN { s.flags with c := decide (2 ^ 32 ≤ a.toNat + b.toNat) } (a + b)) := finish_writes rd _ _ s

theorem subOp_writes : Writes (subOp rd a b s) s rd (a - b)
    (withZN { s.flags with c := decide (a.toNat < b.toNat) } (a - b)) := finish_writes rd _ _ s

/-- The product modulo 2^32 is the exact product narrowed (R603). -/
theorem mulOp_writes : Writes (mulOp rd a b s) s rd (BitVec.ofNat 32 (a.toNat * b.toNat))
    (withZN { s.flags with v := decide (2 ^ 32 ≤ a.toNat * b.toNat) } (BitVec.ofNat 32 (a.toNat * b.toNat))) := by
  have hmul : BitVec.ofNat 32 (a.toNat * b.toNat) = a * b := rfl
  rw [hmul]
  exact finish_writes rd _ _ s

/-! ## Division and remainder -/

theorem quotient_eq_rounded (r : Rounding) (n d : Int) : quotient r n d = rounded r n d := by cases r <;> rfl

theorem outAfterDivision_of_ne {b : Word} (h : b ≠ 0) : outAfterDivision s b = s.out := if_neg fun hc => h hc.1

/-- The diagnostic of a division by zero (R604). -/
theorem reportDivZero_eq : reportDivZero s = { s with out := outAfterDivision s 0 } := by
  cases hd : s.par.diagOnDiv0 <;> simp [reportDivZero, outAfterDivision, hd, State.raise, State.emit]

/-- Division and remainder by zero (R604, R605), for both values of DIV0_FLAGS. -/
theorem divByZero_writesOut :
    WritesOut (.next (divByZero rd s)) s rd 0 (flagsAfterDivZero s) (outAfterDivision s 0) := by
  rw [divByZero, reportDivZero_eq, flagsAfterDivZero]
  cases s.par.div0Flags with
  | set => exact finish_writesOut rd 0 (s.flags.setV true) s (outAfterDivision s 0)
  | leave => exact ⟨_, rfl, fun q => State.setReg_reg _ rd q 0, rfl⟩

theorem divOp_writesOut :
    WritesOut (divOp rd a b s) s rd (divResult s a b) (divFlags s a b) (outAfterDivision s b) := by
  by_cases hb : b = 0
  · subst hb
    exact divByZero_writesOut rd s
  · rw [outAfterDivision_of_ne s hb, divFlags, if_neg hb, divResult, if_neg hb, divOp, if_neg hb]
    by_cases hmin : a = minWord ∧ b = minusOne
    · rw [if_pos hmin, if_pos hmin, decide_eq_true hmin]
      exact finish_writes rd minWord _ s
    · rw [if_neg hmin, if_neg hmin, decide_eq_false hmin, quotient_eq_rounded]
      exact finish_writes rd _ _ s

theorem modOp_writesOut :
    WritesOut (modOp rd a b s) s rd (modResult s a b) (modFlags s a b) (outAfterDivision s b) := by
  by_cases hb : b = 0
  · subst hb
    exact divByZero_writesOut rd s
  · rw [outAfterDivision_of_ne s hb, modFlags, if_neg hb, modResult, if_neg hb, modOp, if_neg hb, quotient_eq_rounded]
    exact finish_writes rd _ _ s

/-! ## Power -/

/-- One round of squaring. -/
theorem pow_eq_sq_pow_half (e : Nat) : a ^ e = (a * a) ^ (e / 2) * a ^ (e % 2) := by
  rw [← pow_two, ← pow_mul, ← pow_add, Nat.div_add_mod]

/-- `n` rounds of squaring reach every exponent below 2^n. -/
theorem powWord_eq_pow {n e : Nat} (h : e < 2 ^ n) : powWord n a e = a ^ e := by
  induction n generalizing a e with
  | zero =>
    obtain rfl : e = 0 := by omega
    rfl
  | succ n ih =>
    have hhalf : e / 2 < 2 ^ n := by omega
    rw [powWord, ih (a * a) hhalf, pow_eq_sq_pow_half a e]
    rcases Nat.mod_two_eq_zero_or_one e with hpar | hpar
    · simp [hpar]
    · simp [hpar, mul_comm]

/-- The exact power narrowed (R611) is the power of words. -/
theorem ofNat_toNat_pow (e : Nat) : BitVec.ofNat 32 (a.toNat ^ e) = a ^ e := by
  rw [BitVec.ofNat_pow, BitVec.ofNat_toNat, BitVec.setWidth_eq]

/-- The test of R611 that forms no power beyond the 32nd. -/
theorem powOverflow_eq (e : Nat) : powOverflow a e = decide (2 ^ 32 ≤ a.toNat ^ e) := by
  rw [powOverflow]
  by_cases ha : 2 ≤ a.toNat
  · by_cases he : 32 ≤ e
    · have hpow : 2 ^ 32 ≤ a.toNat ^ e :=
        calc 2 ^ 32 ≤ 2 ^ e := Nat.pow_le_pow_right (by decide) he
          _ ≤ a.toNat ^ e := Nat.pow_le_pow_left ha e
      rw [decide_eq_true ha, decide_eq_true he, decide_eq_true hpow]
      rfl
    · have hmin : min e 32 = e := by omega
      simp [ha, he, hmin]
  · have hpow : a.toNat ^ e ≤ 1 := by
      calc a.toNat ^ e ≤ 1 ^ e := Nat.pow_le_pow_left (by omega) e
        _ = 1 := Nat.one_pow e
    have hsmall : ¬ 2 ^ 32 ≤ a.toNat ^ e := by omega
    rw [decide_eq_false ha, Bool.false_and, decide_eq_false hsmall]

theorem powOp_writes_nonneg (h : 0 ≤ b.toInt) :
    Writes (powOp rd a b s) s rd (BitVec.ofNat 32 (a.toNat ^ b.toInt.toNat))
      (withZN { s.flags with v := decide (2 ^ 32 ≤ a.toNat ^ b.toInt.toNat) }
        (BitVec.ofNat 32 (a.toNat ^ b.toInt.toNat))) := by
  have hexp : b.toInt.toNat < 2 ^ 31 := by
    have := BitVec.toInt_lt (x := b)
    omega
  rw [powOp, if_pos h, powWord_eq_pow a hexp, powOverflow_eq, ofNat_toNat_pow]
  exact finish_writes rd _ _ s

theorem powOp_writes_negative (h : ¬ 0 ≤ b.toInt) :
    Writes (powOp rd a b s) s rd (powerNegative a b.toInt)
      (withZN { s.flags with v := false } (powerNegative a b.toInt)) := by
  rw [powOp, if_neg h]
  exact finish_writes rd _ _ s

/-! ## Square root -/

/-- `r` is the integer square root of `n` (R612). -/
def IsRoot (n r : Nat) : Prop := r * r ≤ n ∧ n < (r + 1) * (r + 1)

/-- The search keeps the root between `r` and `r + 2^k`: a bit tried is kept where the square still fits, and where it does not
the square bounds what the lower bits can reach. -/
theorem rootFrom_isRoot (k : Nat) {n r : Nat} (hlow : r * r ≤ n) (hhigh : n < (r + 2 ^ k) * (r + 2 ^ k)) :
    IsRoot n (rootFrom k n r) := by
  induction k generalizing r with
  | zero => exact ⟨hlow, hhigh⟩
  | succ k ih =>
    rw [rootFrom]
    split
    · rename_i hfits
      have hsum : r + 2 ^ (k + 1) = r + 2 ^ k + 2 ^ k := by omega
      exact ih hfits (hsum ▸ hhigh)
    · rename_i hover
      exact ih hlow (Nat.lt_of_not_le hover)

theorem rootFrom_toNat_isRoot : IsRoot a.toNat (rootFrom 16 a.toNat 0) := by
  have hlt : a.toNat < (0 + 2 ^ 16) * (0 + 2 ^ 16) := a.isLt
  exact rootFrom_isRoot 16 (Nat.zero_le _) hlt

/-! ## Absolute value and negation -/

/-- MIN is the one word without a positive counterpart (R613, R614). -/
theorem negOverflow_eq : negOverflow a = decide (a.toInt = -2147483648) := by
  have hmin : a.toInt = -2147483648 ↔ a = minWord := BitVec.toInt_inj (y := minWord)
  rw [negOverflow, Bool.eq_iff_iff, beq_iff_eq, decide_eq_true_iff, hmin]

/-- Negation modulo 2^32 is the exact negation narrowed (R614). -/
theorem zero_sub_eq_ofInt_neg : 0 - a = BitVec.ofInt 32 (-a.toInt) := by
  rw [BitVec.ofInt_neg, BitVec.ofInt_toInt]
  exact BitVec.zero_sub a

/-- The word ABS writes is the exact absolute value narrowed (R613). -/
theorem abs_eq_ofNat_natAbs : (if a.toInt < 0 then 0 - a else a) = BitVec.ofNat 32 a.toInt.natAbs := by
  rw [← BitVec.ofInt_natCast]
  split
  · rename_i hneg
    have habs : (a.toInt.natAbs : Int) = -a.toInt := by omega
    rw [habs, zero_sub_eq_ofInt_neg]
  · rename_i hnonneg
    have habs : (a.toInt.natAbs : Int) = a.toInt := by omega
    rw [habs, BitVec.ofInt_toInt]

theorem execAbs_writes (ra : Reg) : Writes (execAbs rd ra s) s rd (BitVec.ofNat 32 (s.reg ra).toInt.natAbs)
    (withZN { s.flags with v := decide ((s.reg ra).toInt = -2147483648) }
      (BitVec.ofNat 32 (s.reg ra).toInt.natAbs)) := by
  rw [← abs_eq_ofNat_natAbs, ← negOverflow_eq]
  exact finish_writes rd _ _ s

theorem execNeg_writes (ra : Reg) : Writes (execNeg rd ra s) s rd (BitVec.ofInt 32 (-(s.reg ra).toInt))
    (withZN { s.flags with v := decide ((s.reg ra).toInt = -2147483648) }
      (BitVec.ofInt 32 (-(s.reg ra).toInt))) := by
  rw [← zero_sub_eq_ofInt_neg, ← negOverflow_eq]
  exact finish_writes rd _ _ s

end Sys2Proof.Proofs

namespace Sys2Proof.Settled

open Sys2Proof Sys2Proof.Machine Sys2Proof.Claims Sys2Proof.Proofs

/-- Settles O20, by the sign of the exponent. -/
theorem powerIsExactPowerModuloWord : Obligations.PowerIsExactPowerModuloWord := by
  refine ⟨fun _ _ _ => decode_wordDSS rfl, fun s rd ra rb => ?_⟩
  by_cases h : 0 ≤ (s.reg rb).toInt
  · simp only [h, if_true, true_and]
    exact powOp_writes_nonneg rd (s.reg ra) (s.reg rb) s h
  · simp only [h, if_false, false_and, decide_false]
    exact powOp_writes_negative rd (s.reg ra) (s.reg rb) s h

/-- Settles O21: the root is found bit by bit from the highest. -/
theorem squareRootIsLargest : Obligations.SquareRootIsLargest := by
  refine ⟨fun _ _ => decode_wordDS rfl, fun s rd ra => ?_⟩
  obtain ⟨hfits, hlargest⟩ := rootFrom_toNat_isRoot (s.reg ra)
  exact ⟨_, hfits, hlargest, finish_writes rd (rootWord (s.reg ra)) s.flags s⟩

/-- Settles O22: each is the common ending with the exact integer narrowed. -/
theorem absoluteNegateIncrementDecrement : Obligations.AbsoluteNegateIncrementDecrement := by
  refine ⟨fun _ _ => decode_wordDS rfl, fun _ _ => decode_wordDS rfl, fun _ => decode_wordD rfl, fun _ => decode_wordD rfl,
    fun s => ⟨?abs, ?neg, ?inc, ?dec⟩⟩
  case abs => exact fun rd ra => execAbs_writes rd s ra
  case neg => exact fun rd ra => execNeg_writes rd s ra
  case inc => exact fun rd => finish_writes rd (s.reg rd + 1) s.flags s
  case dec => exact fun rd => finish_writes rd (s.reg rd - 1) s.flags s

/-- Settles O18: the register and the immediate form are one operation on two words. -/
theorem addSubtractMultiply : Obligations.AddSubtractMultiply := by
  refine ⟨fun _ _ _ => decode_wordDSS rfl, fun _ _ _ => decode_wordDSS rfl, fun _ _ _ => decode_wordDSS rfl,
    fun _ _ _ => decode_wordDSI rfl, fun _ _ _ => decode_wordDSI rfl, fun _ _ _ => decode_wordDSI rfl,
    fun s => ⟨?add, ?addi, ?sub, ?subi, ?mul, ?muli⟩⟩
  case add => exact fun rd ra rb => addOp_writes rd (s.reg ra) (s.reg rb) s
  case addi => exact fun rd ra imm => addOp_writes rd (s.reg ra) imm s
  case sub => exact fun rd ra rb => subOp_writes rd (s.reg ra) (s.reg rb) s
  case subi => exact fun rd ra imm => subOp_writes rd (s.reg ra) imm s
  case mul => exact fun rd ra rb => mulOp_writes rd (s.reg ra) (s.reg rb) s
  case muli => exact fun rd ra imm => mulOp_writes rd (s.reg ra) imm s

/-- Settles O19: division and remainder by the divisor and the one overflowing pair, for both forms of the divisor. -/
theorem divisionAndRemainder : Obligations.DivisionAndRemainder := by
  refine ⟨fun _ _ _ => decode_wordDSS rfl, fun _ _ _ => decode_wordDSS rfl, fun _ _ _ => decode_wordDSI rfl,
    fun _ _ _ => decode_wordDSI rfl, fun s => ⟨?div, ?divi, ?mod, ?modi⟩⟩
  case div => exact fun rd ra rb => divOp_writesOut rd (s.reg ra) (s.reg rb) s
  case divi => exact fun rd ra imm => divOp_writesOut rd (s.reg ra) imm s
  case mod => exact fun rd ra rb => modOp_writesOut rd (s.reg ra) (s.reg rb) s
  case modi => exact fun rd ra imm => modOp_writesOut rd (s.reg ra) imm s

end Sys2Proof.Settled
end

section
/-! SUPPORT. Logic, shifts, rotates and bits (43_logic_bit.md R700-R716): the words of the formats with an operand 2, the common
ending, the shifts, rotates and masks bit by bit, and the loops of POPCNT and CLZ against the bits they count. -/

namespace Sys2Proof.Proofs

open Sys2Proof Sys2Proof.Machine Sys2Proof.Claims Sys2Proof.Settled

/-! ## Words, one lemma per format -/

section
variable {opc : BitVec 8} {rd ra : Reg} {o : Op2} {i : Instr}

theorem decode_wordDSO (h : encodeFields i = putDSO opc rd ra o) :
    decode (wordWithOp2 opc (regCode rd) (regCode ra) o) = .ok i := by
  have hw : wordWithOp2 opc (regCode rd) (regCode ra) o = (putDSO opc rd ra o).toWord := by
    cases o <;> simp only [wordWithOp2, regCode_eq_code] <;> rfl
  rw [hw, decode_of_encodeFields h]

theorem decode_wordDO (h : encodeFields i = putDO opc rd o) : decode (wordWithOp2 opc (regCode rd) 0 o) = .ok i := by
  have hw : wordWithOp2 opc (regCode rd) 0 o = (putDO opc rd o).toWord := by
    cases o <;> simp only [wordWithOp2, regCode_eq_code] <;> rfl
  rw [hw, decode_of_encodeFields h]

theorem decode_wordSO (h : encodeFields i = putSO opc ra o) : decode (wordWithOp2 opc 0 (regCode ra) o) = .ok i := by
  have hw : wordWithOp2 opc 0 (regCode ra) o = (putSO opc ra o).toWord := by
    cases o <;> simp only [wordWithOp2, regCode_eq_code] <;> rfl
  rw [hw, decode_of_encodeFields h]

end

/-! ## The common ending, and the amount -/

theorem logicOp_writes (rd : Reg) (r : Word) (s : State) : Writes (logicOp rd r s) s rd r (withZN s.flags r) :=
  finish_writes rd r s.flags s

theorem op2Value_eq (o : Op2) (s : State) : op2Value o s = op2Of s o := by cases o <;> rfl

/-- The field `op2[4:0]` is operand 2 modulo 32 (R700). -/
theorem amount_eq (o : Op2) (s : State) : amount o s = amountOf s o := by
  rw [amount, op2Value_eq, BitVec.extractLsb'_toNat, Nat.shiftRight_zero]
  rfl

theorem amountOf_lt (s : State) (o : Op2) : amountOf s o < 32 := Nat.mod_lt _ (by decide)

/-! ## Shifts and rotates -/

section
variable (a : Word) {n k : Nat}

theorem toNat_shiftLeft_eq_mul : (a <<< n).toNat = a.toNat * 2 ^ n % 2 ^ 32 := by
  rw [BitVec.toNat_shiftLeft, Nat.shiftLeft_eq]

theorem toNat_shiftRight_eq_div : (a >>> n).toNat = a.toNat / 2 ^ n := by
  rw [BitVec.toNat_ushiftRight, Nat.shiftRight_eq_div_pow]

theorem rotLeft_eq_rotateLeft (h : n < 32) : rotLeft a n = a.rotateLeft n := by
  rw [rotLeft, BitVec.rotateLeft_def, Nat.mod_eq_of_lt h]
  split
  · rename_i hzero
    subst hzero
    have hout : a >>> 32 = 0 := BitVec.ushiftRight_eq_zero (Nat.le_refl 32)
    simp [hout]
  · rfl

theorem rotRight_eq_rotateRight (h : n < 32) : rotRight a n = a.rotateRight n := by
  rw [rotRight, BitVec.rotateRight_def, Nat.mod_eq_of_lt h]
  split
  · rename_i hzero
    subst hzero
    simp
  · rfl

/-- Bit `k` goes `n` places up, and from bit 31 on to bit 0 (R709). -/
theorem rotLeft_getLsbD (hn : n < 32) (hk : k < 32) : (rotLeft a n).getLsbD ((k + n) % 32) = a.getLsbD k := by
  rw [rotLeft_eq_rotateLeft a hn, BitVec.getLsbD_rotateLeft_of_le hn]
  by_cases hwrap : k + n < 32
  · have hmod : (k + n) % 32 = k + n := Nat.mod_eq_of_lt hwrap
    simp [hmod, hwrap]
  · have hmod : (k + n) % 32 = k + n - 32 := by omega
    have hlow : k + n - 32 < n := by omega
    have hsrc : 32 - n + (k + n - 32) = k := by omega
    simp [hmod, hlow, hsrc]

/-- Bit `k` comes from `n` places up, past bit 31 from bit 0 on (R710). -/
theorem rotRight_getLsbD (hn : n < 32) (hk : k < 32) : (rotRight a n).getLsbD k = a.getLsbD ((k + n) % 32) := by
  rw [rotRight_eq_rotateRight a hn, BitVec.getLsbD_rotateRight_of_lt hn]
  by_cases hwrap : k + n < 32
  · have hmod : (k + n) % 32 = n + k := by omega
    have hlow : k < 32 - n := by omega
    simp [hmod, hlow]
  · have hmod : (k + n) % 32 = k - (32 - n) := by omega
    have hhigh : ¬ k < 32 - n := by omega
    simp [hmod, hhigh, hk]

end

/-! ## Single bits -/

section
variable (a : Word) {n k : Nat}

theorem bitMask_getLsbD (hn : n < 32) : (bitMask n).getLsbD k = decide (k = n) := by
  have hbit : (bitMask n).getLsbD k = (decide (n < 32) && decide (n = k)) := BitVec.getLsbD_twoPow n k
  simp [hbit, hn, eq_comm]

theorem or_bitMask_getLsbD (hn : n < 32) :
    (a ||| bitMask n).getLsbD k = if k = n then true else a.getLsbD k := by
  rw [BitVec.getLsbD_or, bitMask_getLsbD hn]
  by_cases h : k = n <;> simp [h]

theorem and_not_bitMask_getLsbD (hn : n < 32) (hk : k < 32) :
    (a &&& ~~~ bitMask n).getLsbD k = if k = n then false else a.getLsbD k := by
  rw [BitVec.getLsbD_and, BitVec.getLsbD_not, bitMask_getLsbD hn]
  by_cases h : k = n <;> simp [h, hk]

theorem xor_bitMask_getLsbD (hn : n < 32) :
    (a ^^^ bitMask n).getLsbD k = if k = n then !a.getLsbD k else a.getLsbD k := by
  rw [BitVec.getLsbD_xor, bitMask_getLsbD hn]
  by_cases h : k = n <;> simp [h]

theorem and_bitMask_getLsbD (hn : n < 32) : (a &&& bitMask n).getLsbD k = (decide (n = k) && a.getLsbD k) := by
  rw [BitVec.getLsbD_and, bitMask_getLsbD hn, Bool.and_comm, decide_eq_decide.2 eq_comm]

/-- A masked word is 0 exactly where its one bit is (R714). -/
theorem and_bitMask_beq_zero (hn : n < 32) : (a &&& bitMask n == 0) = !a.getLsbD n := by
  cases hbit : a.getLsbD n with
  | true =>
    have hset : (a &&& bitMask n).getLsbD n = true := by simp [and_bitMask_getLsbD a hn, hbit]
    have hne : a &&& bitMask n ≠ 0 := fun hzero => by simp [hzero] at hset
    exact beq_false_of_ne hne
  | false =>
    have hzero : a &&& bitMask n = 0 := by
      refine BitVec.eq_of_getLsbD_eq fun k _ => ?_
      rw [and_bitMask_getLsbD a hn]
      by_cases h : n = k
      · subst h
        simp [hbit]
      · simp [h]
    exact beq_iff_eq.2 hzero

end

theorem execTestbit_eq (ra : Reg) (o : Op2) (s : State) :
    execTestbit ra o s =
      .next { s with pc := s.pc + 1,
                     flags := { s.flags with z := !(s.reg ra).getLsbD (amountOf s o),
                                             n := decide (amountOf s o = 31) && (s.reg ra).getLsbD 31 } } := by
  rw [execTestbit, amount_eq, Flags.setZN, and_bitMask_beq_zero _ (amountOf_lt s o),
    and_bitMask_getLsbD _ (amountOf_lt s o)]
  rfl

/-! ## POPCNT -/

/-- The bits of `m` that are 1, of its lowest `w`. -/
def onesBelow (w m : Nat) : Nat := (List.range w).countP m.testBit

theorem onesBelow_zero (w : Nat) : onesBelow w 0 = 0 := by simp [onesBelow]

theorem onesBelow_le (w m : Nat) : onesBelow w m ≤ w :=
  List.countP_le_length.trans_eq List.length_range

/-- Bit 0 apart, the bits of `m` are those of `m / 2`. -/
theorem onesBelow_succ (w m : Nat) : onesBelow (w + 1) m = onesBelow w (m / 2) + m % 2 := by
  have htail : m.testBit ∘ Nat.succ = (m / 2).testBit := funext fun k => Nat.testBit_succ m k
  have hhead : m.testBit 0 = decide (m % 2 = 1) := Nat.testBit_zero m
  rw [onesBelow, List.range_succ_eq_map, List.countP_cons, List.countP_map, htail, hhead, onesBelow]
  rcases Nat.mod_two_eq_zero_or_one m with h | h <;> simp [h]

/-- A round of POPCNT's loop clears one bit (R715): bit 0 where it is set, and otherwise the lowest bit of the upper half, since
the borrow passes bit 0. -/
theorem onesBelow_clearLowest {w m : Nat} (hpos : 0 < m) (hlt : m < 2 ^ w) :
    onesBelow w (m &&& (m - 1)) + 1 = onesBelow w m := by
  induction w generalizing m with
  | zero => omega
  | succ w ih =>
    have hbit : (m &&& (m - 1)) % 2 = 0 := by
      rw [Nat.and_mod_two_pow (n := 1)]
      rcases Nat.mod_two_eq_zero_or_one m with h | h
      · simp [h]
      · have hprev : (m - 1) % 2 = 0 := by omega
        simp [hprev]
    rw [onesBelow_succ, onesBelow_succ, hbit, Nat.and_div_two]
    rcases Nat.mod_two_eq_zero_or_one m with heven | hodd
    · have hhalf : (m - 1) / 2 = m / 2 - 1 := by omega
      have hrec : onesBelow w (m / 2 &&& (m / 2 - 1)) + 1 = onesBelow w (m / 2) := ih (by omega) (by omega)
      rw [hhalf]
      omega
    · have hhalf : (m - 1) / 2 = m / 2 := by omega
      rw [hhalf, Nat.and_self, hodd]

theorem toNat_clearLowest {v : Word} (h : v ≠ 0) : (v &&& (v - 1)).toNat = v.toNat &&& (v.toNat - 1) := by
  have hpos : (1 : Word) ≤ v := by bv_omega
  rw [BitVec.toNat_and, BitVec.toNat_sub_of_le hpos]
  rfl

/-- The loop counts the bits as long as it has a round for each. -/
theorem popcountFrom_eq {k : Nat} {v : Word} (h : onesBelow 32 v.toNat ≤ k) :
    popcountFrom k v = onesBelow 32 v.toNat := by
  induction k generalizing v with
  | zero => exact (Nat.le_zero.1 h).symm
  | succ k ih =>
    rw [popcountFrom]
    split
    · rename_i hzero
      subst hzero
      exact (onesBelow_zero 32).symm
    · rename_i hne
      have hpos : 0 < v.toNat := by bv_omega
      have hclear : onesBelow 32 (v &&& (v - 1)).toNat + 1 = onesBelow 32 v.toNat := by
        rw [toNat_clearLowest hne]
        exact onesBelow_clearLowest hpos v.isLt
      rw [ih (by omega), hclear]

theorem popcountFrom_eq_countP (v : Word) : popcountFrom 32 v = (List.range 32).countP fun k => v.getLsbD k :=
  popcountFrom_eq (onesBelow_le 32 v.toNat)

/-! ## CLZ -/

/-- `c` zero bits of `v` from bit `k - 1` downward, ended by a bit that is 1 or by bit 0 (R716). -/
structure IsZeroRun (k : Nat) (v : Word) (c : Nat) : Prop where
  le : c ≤ k
  zeros : ∀ j, j < k → k ≤ j + c → v.getLsbD j = false
  ended : c < k → v.getLsbD (k - 1 - c) = true

theorem leadingZerosFrom_isZeroRun (k : Nat) (v : Word) : IsZeroRun k v (leadingZerosFrom k v) := by
  induction k with
  | zero => exact ⟨Nat.le_refl 0, fun j hj => absurd hj (Nat.not_lt_zero j), fun h => absurd h (Nat.lt_irrefl 0)⟩
  | succ k ih =>
    obtain ⟨hle, hzeros, hended⟩ := ih
    rw [leadingZerosFrom]
    split
    · rename_i hset
      exact ⟨Nat.zero_le _, fun j hj hrun => by omega, fun _ => hset⟩
    · rename_i hclear
      refine ⟨Nat.succ_le_succ hle, fun j hj hrun => ?_, fun hlt => ?_⟩
      · rcases Nat.lt_succ_iff_lt_or_eq.1 hj with hbelow | rfl
        · exact hzeros j hbelow (by omega)
        · exact Bool.eq_false_iff.2 hclear
      · have hidx : k + 1 - 1 - (leadingZerosFrom k v + 1) = k - 1 - leadingZerosFrom k v := by omega
        rw [hidx]
        exact hended (by omega)

end Sys2Proof.Proofs

namespace Sys2Proof.Settled

open Sys2Proof Sys2Proof.Machine Sys2Proof.Claims Sys2Proof.Proofs

/-- Settles O24: the shifts as arithmetic on the unsigned value, the rotates bit by bit, at an amount below 32. -/
theorem shiftsAndRotates : Obligations.ShiftsAndRotates := by
  refine ⟨fun _ _ _ => decode_wordDSO rfl, fun _ _ _ => decode_wordDSO rfl, fun _ _ _ => decode_wordDSO rfl,
    fun _ _ _ => decode_wordDSO rfl, fun s rd ra o => ?_⟩
  have hn : amountOf s o < 32 := amountOf_lt s o
  rw [← amount_eq] at hn ⊢
  refine ⟨⟨_, ?shl, logicOp_writes rd _ s⟩, ⟨_, ?shr, logicOp_writes rd _ s⟩, ⟨_, ?rol, logicOp_writes rd _ s⟩,
    ⟨_, ?ror, logicOp_writes rd _ s⟩⟩
  case shl => exact toNat_shiftLeft_eq_mul (s.reg ra)
  case shr => exact toNat_shiftRight_eq_div (s.reg ra)
  case rol => exact fun k hk => rotLeft_getLsbD (s.reg ra) hn hk
  case ror => exact fun k hk => rotRight_getLsbD (s.reg ra) hn hk

/-- Settles O25: one mask set, cleared, inverted or tested, at an index below 32. -/
theorem singleBitOperations : Obligations.SingleBitOperations := by
  refine ⟨fun _ _ => decode_wordDO rfl, fun _ _ => decode_wordDO rfl, fun _ _ => decode_wordDO rfl,
    fun _ _ => decode_wordSO rfl, fun s rd o => ?_⟩
  have hn : amount o s < 32 := amount_eq o s ▸ amountOf_lt s o
  have htest := execTestbit_eq rd o s
  rw [← amount_eq] at htest ⊢
  refine ⟨⟨_, ?set, logicOp_writes rd _ s⟩, ⟨_, ?clear, logicOp_writes rd _ s⟩, ⟨_, ?toggle, logicOp_writes rd _ s⟩,
    htest⟩
  case set => exact fun k _ => or_bitMask_getLsbD (s.reg rd) hn
  case clear => exact fun k hk => and_not_bitMask_getLsbD (s.reg rd) hn hk
  case toggle => exact fun k _ => xor_bitMask_getLsbD (s.reg rd) hn

/-- Settles O26: POPCNT's loop clears one bit a round, CLZ's ends at the highest bit that is 1. -/
theorem countingInstructions : Obligations.CountingInstructions := by
  refine ⟨fun _ _ => decode_wordDS rfl, fun _ _ => decode_wordDS rfl, fun s rd ra => ⟨?popcnt, ?clz⟩⟩
  case popcnt =>
    rw [← popcountFrom_eq_countP]
    exact logicOp_writes rd _ s
  case clz =>
    obtain ⟨hle, hzeros, hended⟩ := leadingZerosFrom_isZeroRun 32 (s.reg ra)
    exact ⟨_, hle, hzeros, hended, logicOp_writes rd _ s⟩

/-- Settles O23: each is the common ending with its bitwise result. -/
theorem bitwiseLogic : Obligations.BitwiseLogic := by
  refine ⟨fun _ _ _ => decode_wordDSS rfl, fun _ _ _ => decode_wordDSS rfl, fun _ _ _ => decode_wordDSS rfl,
    fun _ _ => decode_wordDS rfl, fun _ _ _ => decode_wordDSS rfl, fun _ _ _ => decode_wordDSS rfl,
    fun s => ⟨?and, ?or, ?xor, ?not, ?nand, ?nor⟩⟩
  case and => exact fun rd ra rb => logicOp_writes rd (s.reg ra &&& s.reg rb) s
  case or => exact fun rd ra rb => logicOp_writes rd (s.reg ra ||| s.reg rb) s
  case xor => exact fun rd ra rb => logicOp_writes rd (s.reg ra ^^^ s.reg rb) s
  case not => exact fun rd ra => logicOp_writes rd (~~~ s.reg ra) s
  case nand => exact fun rd ra rb => logicOp_writes rd (~~~ (s.reg ra &&& s.reg rb)) s
  case nor => exact fun rd ra rb => logicOp_writes rd (~~~ (s.reg ra ||| s.reg rb)) s

end Sys2Proof.Settled
end

section
/-! SUPPORT. Comparisons and branches (44_compare_branch.md R800-R830): the words of the branch format, what the two comparing
operations and a branch leave, and the N flag of a difference against the signed order. -/

namespace Sys2Proof.Proofs

open Sys2Proof Sys2Proof.Machine Sys2Proof.Claims

theorem decode_wordI {opc : BitVec 8} {v : Word} {i : Instr} (h : encodeFields i = putI opc v) :
    decode (wordOf opc 0 0 0 0 0 v) = .ok i := by
  have hw : wordOf opc 0 0 0 0 0 v = (putI opc v).toWord := rfl
  rw [hw, decode_of_encodeFields h]

/-! ## What a comparison, a test and a branch leave -/

section
variable (a b : Word) (s : State)

theorem cmpOp_eq : cmpOp a b s =
    .next { s with pc := s.pc + 1, flags := withZN { s.flags with c := decide (a.toNat < b.toNat) } (a - b) } := rfl

theorem testOp_eq : testOp a b s =
    .next { s with pc := s.pc + 1, flags := withZN { s.flags with c := false } (a &&& b) } := rfl

end

/-- A branch whose condition reads as `cond` (R810). -/
theorem branchIf_branches {taken cond : Bool} (x : Word) (s : State) (h : taken = cond) :
    Branches (branchIf taken x s) s cond x := by
  subst h
  cases taken <;> rfl

/-! ## The flags after a comparison -/

section
variable {s t : State} {a b : Word}

/-- CMP and CMPI are one operation on two words (R801, R802). -/
theorem cmpOp_of_compared (h : Compared s t a b) : cmpOp a b s = .next t := by
  obtain ⟨ra, rb, rfl, rfl, hexec⟩ | ⟨ra, rfl, hexec⟩ := h
  · exact hexec
  · exact hexec

theorem flags_of_compared (h : Compared s t a b) :
    t.flags = withZN { s.flags with c := decide (a.toNat < b.toNat) } (a - b) := by
  have hcmp := cmpOp_of_compared h
  rw [cmpOp_eq] at hcmp
  injection hcmp with ht
  rw [← ht]

theorem c_of_compared (h : Compared s t a b) : t.flags.c = decide (a.toNat < b.toNat) := by
  rw [flags_of_compared h, withZN]

theorem z_of_compared (h : Compared s t a b) : t.flags.z = decide (a = b) := by
  rw [flags_of_compared h, withZN, decide_eq_decide]
  exact sub_eq_zero

theorem n_of_compared (h : Compared s t a b) : t.flags.n = (a - b).getLsbD 31 := by
  rw [flags_of_compared h, withZN]

/-- Z says the same of the signed values, which are one to one with the words. -/
theorem z_of_compared_toInt (h : Compared s t a b) : t.flags.z = decide (a.toInt = b.toInt) := by
  rw [z_of_compared h, decide_eq_decide, BitVec.toInt_inj]

end

/-! ## The N flag of a difference and the signed order -/

section
variable {a b : Word}

/-- N is the sign of the exact difference wrapped into the signed range. -/
theorem sub_getLsbD_31 (a b : Word) : (a - b).getLsbD 31 = decide ((a.toInt - b.toInt).bmod (2 ^ 32) < 0) := by
  rw [← BitVec.toInt_sub, ← BitVec.msb_eq_toInt, BitVec.msb_eq_getLsbD_last]

/-- Within the signed range nothing is wrapped. -/
theorem sub_getLsbD_31_of_fits (hlow : -2147483648 ≤ a.toInt - b.toInt) (hhigh : a.toInt - b.toInt < 2147483648) :
    (a - b).getLsbD 31 = decide (a.toInt < b.toInt) := by
  have hwrap : (a.toInt - b.toInt).bmod (2 ^ 32) = a.toInt - b.toInt :=
    Int.bmod_eq_of_le_mul_two (by omega) (by omega)
  rw [sub_getLsbD_31, hwrap, decide_eq_decide]
  omega

/-- Beyond it the wrapping by 2^32 turns the sign around. -/
theorem sub_getLsbD_31_of_overflow
    (h : a.toInt - b.toInt < -2147483648 ∨ 2147483648 ≤ a.toInt - b.toInt) :
    (a - b).getLsbD 31 = decide (b.toInt < a.toInt) := by
  have halow : -2147483648 ≤ a.toInt := BitVec.le_toInt a
  have hahigh : a.toInt < 2147483648 := BitVec.toInt_lt
  have hblow : -2147483648 ≤ b.toInt := BitVec.le_toInt b
  have hbhigh : b.toInt < 2147483648 := BitVec.toInt_lt
  rw [sub_getLsbD_31, decide_eq_decide]
  obtain hbelow | habove := h
  · have hwrap : (a.toInt - b.toInt).bmod (2 ^ 32) = a.toInt - b.toInt + (2 ^ 32 : Nat) := by
      rw [← Int.add_bmod_right]
      exact Int.bmod_eq_of_le_mul_two (by omega) (by omega)
    omega
  · have hwrap : (a.toInt - b.toInt).bmod (2 ^ 32) = a.toInt - b.toInt - (2 ^ 32 : Nat) := by
      rw [← Int.sub_bmod_right]
      exact Int.bmod_eq_of_le_mul_two (by omega) (by omega)
    omega

end

/-! ## The order branches, where Z and N are those of two integers in order -/

section
variable {t : State} {p q : Int}

/-- Where Z is equality and N is the order of two integers, the order branches are the order of these. -/
theorem orderBranches_of_flags (x : Word) (hz : t.flags.z = decide (p = q)) (hn : t.flags.n = decide (p < q)) :
    Branches (exec (.jlt x) t) t (decide (p < q)) x ∧ Branches (exec (.jgt x) t) t (decide (q < p)) x ∧
    Branches (exec (.jle x) t) t (decide (p ≤ q)) x ∧ Branches (exec (.jge x) t) t (decide (q ≤ p)) x := by
  refine ⟨branchIf_branches x t ?lt, branchIf_branches x t ?gt, branchIf_branches x t ?le, branchIf_branches x t ?ge⟩
  case lt => grind [Flags.condLT]
  case gt => grind [Flags.condGT]
  case le => grind [Flags.condLE]
  case ge => grind [Flags.condGE]

end

end Sys2Proof.Proofs

namespace Sys2Proof.Settled

open Sys2Proof Sys2Proof.Machine Sys2Proof.Claims Sys2Proof.Proofs

/-- Settles O30: C and Z by themselves, Z and N together as the signed order of the operands, or of the operands exchanged where
the signed difference overflows. -/
theorem branchAfterCompare : Obligations.BranchAfterCompare := by
  intro s t a b x h
  have hc := c_of_compared h
  have hz := z_of_compared h
  have hzInt := z_of_compared_toInt h
  refine ⟨branchIf_branches x t hc, branchIf_branches x t ?jnc, branchIf_branches x t hz, branchIf_branches x t ?jne,
    fun hlow hhigh => ?fits, fun hover => ?overflow⟩
  case jnc => rw [Flags.condNC, hc, ← decide_not, decide_eq_decide, Nat.not_lt]
  case jne => rw [Flags.condNE, hz, ← decide_not]
  case fits =>
    exact orderBranches_of_flags x hzInt ((n_of_compared h).trans (sub_getLsbD_31_of_fits hlow hhigh))
  case overflow =>
    have hzSwapped : t.flags.z = decide (b.toInt = a.toInt) := hzInt.trans (decide_eq_decide.2 eq_comm)
    exact orderBranches_of_flags x hzSwapped ((n_of_compared h).trans (sub_getLsbD_31_of_overflow hover))

/-- Settles O27: the register and the immediate form are one operation on two words. -/
theorem comparisons : Obligations.Comparisons := by
  refine ⟨fun _ _ => decode_wordSS rfl, fun _ _ => decode_wordSI rfl, fun _ _ => decode_wordSS rfl,
    fun _ _ => decode_wordSI rfl, fun s => ⟨?cmp, ?cmpi, ?test, ?testi⟩⟩
  case cmp => exact fun ra rb => cmpOp_eq (s.reg ra) (s.reg rb) s
  case cmpi => exact fun ra imm => cmpOp_eq (s.reg ra) imm s
  case test => exact fun ra rb => testOp_eq (s.reg ra) (s.reg rb) s
  case testi => exact fun ra imm => testOp_eq (s.reg ra) imm s

/-- Settles O28: JMP is one pc write, each other a branch on its own flag. -/
theorem jumpsAndOneFlagBranches : Obligations.JumpsAndOneFlagBranches := by
  intro s x
  refine ⟨⟨decode_wordI rfl, rfl⟩, ⟨decode_wordI rfl, ?jeq⟩, ⟨decode_wordI rfl, ?jz⟩, ⟨decode_wordI rfl, ?jne⟩,
    ⟨decode_wordI rfl, ?jnz⟩, ⟨decode_wordI rfl, ?jc⟩, ⟨decode_wordI rfl, ?jnc⟩, ⟨decode_wordI rfl, ?jo⟩,
    ⟨decode_wordI rfl, ?jno⟩⟩
  case jeq | jz | jne | jnz | jc | jnc | jo | jno => exact branchIf_branches x s rfl

/-- Settles O29: each is a branch on its condition over N and Z. -/
theorem orderBranches : Obligations.OrderBranches := by
  intro s x
  refine ⟨⟨decode_wordI rfl, ?jlt⟩, ⟨decode_wordI rfl, ?jgt⟩, ⟨decode_wordI rfl, ?jle⟩, ⟨decode_wordI rfl, ?jge⟩⟩
  case jlt | jgt | jle | jge => exact branchIf_branches x s rfl

end Sys2Proof.Settled
end

section
/-! SUPPORT. The stack instructions (45_stack.md R900-R910): the words of formats N and S, the state after one push and after one
pop, the packed flags as a number, and the pops of POPA against the pushes of PUSHA. -/

namespace Sys2Proof.Proofs

open Sys2Proof Sys2Proof.Machine Sys2Proof.Claims

variable {s t : State} {v : Word} {rest : List Word}

/-! ## Words, one lemma per format -/

section
variable {opc : BitVec 8} {ra : Reg} {i : Instr}

theorem decode_wordN (h : encodeFields i = putN opc) : decode (wordOf opc 0 0 0 0 0 0) = .ok i := by
  have hw : wordOf opc 0 0 0 0 0 0 = (putN opc).toWord := rfl
  rw [hw, decode_of_encodeFields h]

theorem decode_wordS (h : encodeFields i = putS opc ra) : decode (wordOf opc 0 (regCode ra) 0 0 0 0) = .ok i := by
  have hw : wordOf opc 0 (regCode ra) 0 0 0 0 = (putS opc ra).toWord := by rw [regCode_eq_code]; rfl
  rw [hw, decode_of_encodeFields h]

end

/-! ## One push -/

theorem pushed_spDown (s : State) (v : Word) : spDown s (s.pushed v) 1 := fun q => Regs.read_write s.regs .sp q _

/-- A push for which there is room, in a sequence (R124). -/
theorem andThen_push_of_hasRoom (v : Word) (k : State → Result) (h : s.hasRoom 1) :
    andThen (push v s) k = k (s.pushed v) := by
  rw [push_of_hasRoom v h, andThen_next]

/-- A push that is not refused, then a change of state (R124). -/
theorem eq_of_push_then {k : State → State} (h : andThen (push v s) (fun u => .next (k u)) = .next t) :
    t = k (s.pushed v) := by
  obtain ⟨u, hu, ht⟩ := andThen_eq_next.1 h
  obtain ⟨_, rfl⟩ := push_eq_next.1 hu
  injection ht with ht
  exact ht.symm

/-! ## One pop -/

/-- The state after a pop that leaves `rest` on the stack (R125). -/
def popped (s : State) (rest : List Word) : State := { s with stk := rest, regs := s.regs.write .sp (s.reg .sp + 1) }

@[simp] theorem popped_stk (s : State) (rest : List Word) : (popped s rest).stk = rest := rfl

theorem popped_reg (s : State) (rest : List Word) (q : Reg) :
    (popped s rest).reg q = if q = .sp then s.reg .sp + 1 else s.reg q := Regs.read_write s.regs .sp q _

theorem popped_spUp (s : State) (rest : List Word) : spUp s (popped s rest) 1 := popped_reg s rest

theorem execPop_nil (rd : Reg) (h : s.stk = []) : execPop rd s = .next s.advance := by
  rw [execPop, pop_nil h]

theorem execPop_cons (rd : Reg) (h : s.stk = v :: rest) :
    execPop rd s = .next ((popped s rest).setReg rd v).advance := by
  rw [execPop, pop_cons h]
  rfl

theorem popPc_nil (h : s.stk = []) : popPc s = s.advance := by rw [popPc, pop_nil h]

theorem popPc_cons (h : s.stk = v :: rest) : popPc s = (popped s rest).setPc v := by
  rw [popPc, pop_cons h]
  rfl

theorem popFlags_nil (h : s.stk = []) : popFlags s = s := by rw [popFlags, pop_nil h]

theorem unpack_eq_unpackedInto (f : Flags) (v : Word) : f.unpack v = unpackedInto f v := by
  have hbit : ∀ k, v.getLsbD k = decide (v.toNat / 2 ^ k % 2 = 1) := fun k => Nat.testBit_eq_decide_div_mod_eq
  simp only [Flags.unpack, unpackedInto, hbit, Nat.reducePow, Nat.div_one]

theorem popFlags_cons (h : s.stk = v :: rest) : popFlags s = (popped s rest).setFlags (unpackedInto s.flags v) := by
  rw [popFlags, pop_cons h, ← unpack_eq_unpackedInto]
  rfl

/-- RET where there is an entry (R904). -/
theorem execRet_cons (h : s.stk = v :: rest) : ∃ t, execRet s = .next t ∧ spUp s t 1 ∧
    t = { s with regs := t.regs, stk := rest, pc := v } := by
  rw [execRet, popPc_cons h]
  exact ⟨_, rfl, popped_spUp s rest, rfl⟩

/-- POPF where there is an entry (R908). -/
theorem execPopf_cons (h : s.stk = v :: rest) : ∃ t, execPopf s = .next t ∧ spUp s t 1 ∧
    t = { s with regs := t.regs, stk := rest, flags := unpackedInto s.flags v, pc := s.pc + 1 } := by
  rw [execPopf, popFlags_cons h]
  exact ⟨_, rfl, popped_spUp s rest, rfl⟩

theorem packed_toNat (f : Flags) :
    (packed f).toNat = f.z.toNat + 2 * f.c.toNat + 4 * f.n.toNat + 8 * f.v.toNat := by
  have hz := f.z.toNat_lt
  have hc := f.c.toNat_lt
  have hn := f.n.toNat_lt
  have hv := f.v.toNat_lt
  rw [packed, BitVec.toNat_ofNat, Nat.mod_eq_of_lt (by omega)]

/-- Packed flags unpack to themselves; I comes from the flags unpacked into (R117). -/
theorem unpackedInto_packed (f g : Flags) : unpackedInto f (packed g) = { g with i := f.i } := by
  have hdigits : ∀ z c n v : Bool, let p := z.toNat + 2 * c.toNat + 4 * n.toNat + 8 * v.toNat
      decide (p % 2 = 1) = z ∧ decide (p / 2 % 2 = 1) = c ∧ decide (p / 4 % 2 = 1) = n ∧ decide (p / 8 % 2 = 1) = v := by
    decide
  obtain ⟨hz, hc, hn, hv⟩ := hdigits g.z g.c g.n g.v
  rw [unpackedInto, packed_toNat, hz, hc, hn, hv]

/-! ## Pops into registers -/

theorem popEach_nil (rs : List Reg) (h : s.stk = []) : popEach rs s = s := by
  induction rs with
  | nil => rfl
  | cons r rs ih => rw [popEach, pop_nil h, ih]

theorem popEach_cons (r : Reg) (rs : List Reg) (h : s.stk = v :: rest) :
    popEach (r :: rs) s = popEach rs ((popped s rest).setReg r v) := by
  rw [popEach, pop_cons h]
  rfl

theorem popEach_append (qs rs : List Reg) (s : State) : popEach (qs ++ rs) s = popEach rs (popEach qs s) := by
  induction qs generalizing s with
  | nil => rfl
  | cons q qs ih =>
    rw [List.cons_append, popEach, popEach]
    cases pop s with
    | none => exact ih s
    | some p => exact ih _

theorem popEach_stk (rs : List Reg) (s : State) : (popEach rs s).stk = s.stk.drop rs.length := by
  induction rs generalizing s with
  | nil => rfl
  | cons r rs ih =>
    cases h : s.stk with
    | nil => rw [popEach_nil _ h, h, List.drop_nil]
    | cons v rest => rw [popEach_cons r rs h, ih, State.setReg_stk, popped_stk, List.length_cons, List.drop_succ_cons]

/-- A register that is not popped into keeps its value; SP has its own rule. -/
theorem popEach_reg_of_notMem {rs : List Reg} {q : Reg} (hsp : q ≠ .sp) (hq : q ∉ rs) (s : State) :
    (popEach rs s).reg q = s.reg q := by
  induction rs generalizing s with
  | nil => rfl
  | cons r rs ih =>
    obtain ⟨hqr, hqrs⟩ := not_or.1 (mt List.mem_cons.2 hq)
    cases h : s.stk with
    | nil => rw [popEach_nil _ h]
    | cons v rest =>
      rw [popEach_cons r rs h, ih hqrs, State.setReg_reg_other _ v hqr, popped_reg, if_neg hsp]

/-- The register in place `j` takes entry `j` of the stack, or keeps its value where there is none (R906). -/
theorem popEach_reg_getElem {rs : List Reg} (hnodup : rs.Nodup) (hsp : Reg.sp ∉ rs) (s : State) {j : Nat}
    (hj : j < rs.length) : (popEach rs s).reg rs[j] = (s.stk[j]?).getD (s.reg rs[j]) := by
  induction rs generalizing s j with
  | nil => exact absurd hj (Nat.not_lt_zero j)
  | cons r rs ih =>
    obtain ⟨hr, hrs⟩ := List.nodup_cons.1 hnodup
    obtain ⟨hspr, hsprs⟩ := not_or.1 (mt List.mem_cons.2 hsp)
    cases h : s.stk with
    | nil => rw [popEach_nil _ h, List.getElem?_nil, Option.getD_none]
    | cons v rest =>
      rw [popEach_cons r rs h]
      cases j with
      | zero => exact (popEach_reg_of_notMem (Ne.symm hspr) hr _).trans (State.setReg_reg_same _ r v)
      | succ j =>
        have hj' : j < rs.length := Nat.lt_of_succ_lt_succ hj
        have hmem : rs[j] ∈ rs := List.getElem_mem hj'
        have hne : rs[j] ≠ r := fun he => hr (he ▸ hmem)
        have hnsp : rs[j] ≠ .sp := fun he => hsprs (he ▸ hmem)
        rw [List.getElem_cons_succ, ih hrs hsprs, State.setReg_reg_other _ v hne, popped_reg, if_neg hnsp]
        rfl

/-- SP rises by the number of entries popped (R906): what it counts together with the depth stays. -/
theorem popEach_reg_sp {rs : List Reg} (h : ∀ r ∈ rs, r ≠ .sp) (s : State) :
    (popEach rs s).reg .sp = s.reg .sp + BitVec.ofNat 32 (min rs.length s.stk.length) := by
  have hcounter := counter_popEach (s := s) h
  have hlen : s.stk.length = min rs.length s.stk.length + (s.stk.length - rs.length) := by omega
  rw [counter, counter, popEach_stk, List.length_drop, hlen, BitVec.ofNat_add, ← BitVec.add_assoc, ← hlen] at hcounter
  exact add_right_cancel hcounter

/-! ## PUSHA, then POPA -/

/-- Registers pushed, then popped in the opposite order: the state before the pushes. -/
theorem popEach_reverse_of_pushAll {rs : List Reg} (hsp : Reg.sp ∉ rs) (h : pushAll (rs.map s.reg) s = .next t) :
    popEach rs.reverse t = s := by
  induction rs generalizing s with
  | nil => injection h with h; exact h.symm
  | cons r rs ih =>
    obtain ⟨_, hsprs⟩ := not_or.1 (mt List.mem_cons.2 hsp)
    obtain ⟨u, hu, ht⟩ := andThen_eq_next.1 h
    obtain ⟨_, rfl⟩ := push_eq_next.1 hu
    have hregs : rs.map s.reg = rs.map (s.pushed (s.reg r)).reg := List.map_congr_left fun q hq => by
      have hne : q ≠ .sp := fun he => hsprs (he ▸ hq)
      rw [pushed_spDown, if_neg hne]
    rw [List.reverse_cons, popEach_append, ih hsprs (hregs ▸ ht), popEach, pop_pushed]
    exact congrArg (fun x => { s with regs := x }) (Regs.write_read s.regs r)

theorem popEach_advance (rs : List Reg) (s : State) : popEach rs s.advance = (popEach rs s).advance := by
  induction rs generalizing s with
  | nil => rfl
  | cons r rs ih =>
    cases h : s.stk with
    | nil => rw [popEach_nil _ h, popEach_nil _ (s := s.advance) h]
    | cons v rest =>
      rw [popEach_cons r rs h, popEach_cons r rs (s := s.advance) h]
      exact ih ((popped s rest).setReg r v)

theorem advance_advance (s : State) : s.advance.advance = { s with pc := s.pc + 2 } :=
  congrArg s.setPc (BitVec.add_assoc s.pc 1 1)

/-- `general` counts downward along the order in which POPA pops. -/
theorem general_eq_getElem (j : Nat) (hj : j < 8) : general (7 - j) = generalRegs.reverse[j] := by
  decide +revert

end Sys2Proof.Proofs

namespace Sys2Proof.Settled

open Sys2Proof Sys2Proof.Machine Sys2Proof.Claims Sys2Proof.Proofs

/-- Settles O33: PUSHA is eight pushes; POPA, whatever the depth, gives each register the entry in its place. -/
theorem pushAllAndPopAll : Obligations.PushAllAndPopAll := by
  refine ⟨decode_wordN rfl, decode_wordN rfl, fun s h => ?pusha, fun s => ?popa⟩
  case pusha =>
    obtain ⟨t, ht⟩ := pushAll_of_hasRoom (generalRegs.map s.reg) h
    rw [exec, execPusha, ht, andThen_next, pushAll_eq_next ht]
    exact ⟨_, rfl, fun q => Regs.read_write s.regs .sp q _, rfl⟩
  case popa =>
    refine ⟨_, rfl, fun j hj => ?entry, popEach_reg_sp (by decide) s,
      popEach_reg_of_notMem (by decide) (by decide) s, ?frame⟩
    case entry =>
      rw [general_eq_getElem j hj]
      exact popEach_reg_getElem (by decide) (by decide) s hj
    case frame =>
      rw [popEach_frame, popEach_stk]
      rfl

/-- Settles O36: a pop takes back the push before it; POPF and RET read the one entry that PUSHF and CALL left. -/
theorem balancedStackUse : Obligations.BalancedStackUse := by
  refine ⟨fun s t h => ?pushaPopa, fun s t r q h => ?pushPop, fun s t h u hu => ?pushfPopf,
    fun s t x h u hu => ?callRet⟩
  case pushaPopa =>
    obtain ⟨w, hw, ht⟩ := andThen_eq_next.1 h
    injection ht with ht
    have hback : popEach generalRegs.reverse w = s := popEach_reverse_of_pushAll (by decide) hw
    rw [← ht, ← advance_advance, exec, execPopa, popEach_advance, hback]
    exact ⟨_, rfl, rfl⟩
  case pushPop =>
    obtain rfl := eq_of_push_then (k := State.advance) h
    have hpop : pop (s.pushed (s.reg r)).advance = some (s.reg r, s.advance) := pop_pushed s.advance (s.reg r)
    rw [exec, execPop, hpop]
    exact ⟨_, rfl, fun p => State.setReg_reg s q p (s.reg r),
      congrArg (fun t : State => t.setReg q (s.reg r)) (advance_advance s)⟩
  case pushfPopf =>
    have hstk : u.stk = packed s.flags :: s.stk := by
      rw [hu, eq_of_push_then (k := State.advance) h, packed_eq_pack]
      rfl
    rw [← unpackedInto_packed]
    exact execPopf_cons hstk
  case callRet =>
    have hstk : u.stk = (s.pc + 1) :: s.stk := by
      rw [hu, eq_of_push_then (k := fun w => w.setPc x) h]
      rfl
    exact execRet_cons hstk

/-- Settles O31: one push, one pop. -/
theorem pushAndPop : Obligations.PushAndPop := by
  refine ⟨fun _ => decode_wordS rfl, fun _ => decode_wordD rfl, fun s rs h => ?push,
    fun s rd => ⟨execPop_nil rd, fun v rest h => ?pop⟩⟩
  case push =>
    rw [exec, execPush, andThen_push_of_hasRoom _ _ h]
    exact ⟨_, rfl, pushed_spDown s _, rfl⟩
  case pop =>
    rw [exec, execPop_cons rd h]
    refine ⟨_, rfl, fun q => ?_, rfl⟩
    rw [← popped_reg s rest q]
    exact State.setReg_reg (popped s rest) rd q v

/-- Settles O32: one push or pop, and pc. -/
theorem callAndReturn : Obligations.CallAndReturn := by
  refine ⟨fun _ => decode_wordI rfl, decode_wordN rfl, fun s x h => ?call,
    fun s => ⟨fun h => ?retEmpty, fun v rest h => ?ret⟩⟩
  case call =>
    rw [exec, execCall, andThen_push_of_hasRoom _ _ h]
    exact ⟨_, rfl, pushed_spDown s _, rfl⟩
  case retEmpty => exact congrArg Host.Outcome.next (popPc_nil h)
  case ret => exact execRet_cons h

/-- Settles O34: one push or pop, with the packing as a number. -/
theorem pushAndPopFlags : Obligations.PushAndPopFlags := by
  refine ⟨decode_wordN rfl, decode_wordN rfl, fun s h => ?pushf,
    fun s => ⟨fun h => ?popfEmpty, fun v rest h => ?popf⟩⟩
  case pushf =>
    rw [exec, execPushf, andThen_push_of_hasRoom _ _ h, packed_eq_pack]
    exact ⟨_, rfl, pushed_spDown s _, rfl⟩
  case popfEmpty => exact congrArg (fun t : State => Host.Outcome.next t.advance) (popFlags_nil h)
  case popf => exact execPopf_cons h

end Sys2Proof.Settled
end

section
/-! SUPPORT. The control instructions (46_control.md R1000-R1004): the word of a NOP and the state that each of them leaves. -/

namespace Sys2Proof.Proofs

open Sys2Proof Sys2Proof.Machine Sys2Proof.Claims

theorem decode_wordNB {opc : BitVec 8} {b : Bool} {i : Instr} (h : encodeFields i = putNB opc b) :
    decode (wordOf opc 0 0 0 0 (BitVec.ofBool b) 0) = .ok i := by
  have hw : wordOf opc 0 0 0 0 (BitVec.ofBool b) 0 = (putNB opc b).toWord := by cases b <;> rfl
  rw [hw, decode_of_encodeFields h]

variable (s : State)

theorem execNop_eq (b : Bool) : execNop b s = .next { s with pc := s.pc + 1 } := rfl

theorem execHalt_eq : execHalt s = .next { s with out := s.out ++ [.haltMarker], run := .halted } := rfl

theorem execDebug_eq : execDebug s = .next { s with trace := s.trace ++ [.debugMark s.pc], pc := s.pc + 1 } := rfl

theorem execReset_eq : execReset s = .next
    { s with regs := Regs.reset, flags := Flags.reset, dmem := [], stk := [], pc := s.pc + 1 } := rfl

end Sys2Proof.Proofs

namespace Sys2Proof.Settled

open Sys2Proof Sys2Proof.Machine Sys2Proof.Claims Sys2Proof.Proofs

/-- Settles O14: each instruction's next state in full; after RESET the registers read as reset and an empty memory as 0. -/
theorem controlInstructions : Obligations.ControlInstructions := by
  refine ⟨fun _ => decode_wordNB rfl, decode_wordN rfl, decode_wordN rfl, decode_wordN rfl,
    fun s => ⟨?nop, ?halt, ?debug, ?reset⟩⟩
  case nop => exact execNop_eq s
  case halt => exact execHalt_eq s
  case debug => exact execDebug_eq s
  case reset => exact ⟨_, execReset_eq s, Regs.reset_read, Memory.read_nil, rfl⟩

end Sys2Proof.Settled
end

section
/-! SUPPORT. LinePixels (47_interrupt.md R1118). Along its longer side the default algorithm visits one point a round, and the
round's number gives the point in closed form (`ramp`); a line that is longer downwards is the mirror image of one that is longer
across. What R1118 demands is read off the closed form. -/

namespace Sys2Proof.Proofs

open Sys2Proof Sys2Proof.Machine Sys2Proof.Claims

/-! ## Connected sets of points -/

section
variable {ps : List Point} {p q : Point}

theorem touch_comm : Touch p q ↔ Touch q p := by simp only [Touch]; omega

/-- Two points of the set next to each other. Unlike the relation of `Connected8`, this one is symmetric. -/
def Linked (ps : List Point) (p q : Point) : Prop := p ∈ ps ∧ q ∈ ps ∧ Touch p q

theorem linked_symm (ps : List Point) : Std.Symm (Linked ps) := ⟨fun _ _ ⟨hp, hq, h⟩ => ⟨hq, hp, touch_comm.1 h⟩⟩

/-- A set is connected where one point leads to every other. -/
theorem connected8_of_reaches (h : ∀ q ∈ ps, Relation.ReflTransGen (Linked ps) p q) : Connected8 ps := by
  intro a ha b hb
  have := linked_symm ps
  have hap : Relation.ReflTransGen (Linked ps) a p := Relation.ReflTransGen.stdSymm.symm p a (h a ha)
  exact (hap.trans (h b hb)).lift id fun _ _ ⟨_, hq, ht⟩ => ⟨hq, ht⟩

/-- A row of points, each next to the one before it, is connected. -/
theorem connected8_map_range (f : Nat → Point) {n : Nat} (h : ∀ i, i + 1 < n → Touch (f i) (f (i + 1))) :
    Connected8 ((List.range n).map f) := by
  have hmem : ∀ i, i < n → f i ∈ (List.range n).map f := fun i hi => List.mem_map_of_mem (List.mem_range.2 hi)
  have hreach : ∀ i, i < n → Relation.ReflTransGen (Linked ((List.range n).map f)) (f 0) (f i) := by
    intro i
    induction i with
    | zero => exact fun _ => .refl
    | succ i ih => exact fun hi => (ih (by omega)).tail ⟨hmem i (by omega), hmem (i + 1) hi, h i hi⟩
  refine connected8_of_reaches (p := f 0) fun q hq => ?_
  obtain ⟨i, hi, rfl⟩ := List.mem_map.1 hq
  exact hreach i (List.mem_range.1 hi)

theorem mem_map_swap : p ∈ ps.map Prod.swap ↔ p.swap ∈ ps := by
  rw [List.mem_map]
  exact ⟨fun ⟨q, hq, h⟩ => by rwa [← h, Prod.swap_swap], fun h => ⟨_, h, Prod.swap_swap p⟩⟩

theorem connected8_map_swap (h : Connected8 ps) : Connected8 (ps.map Prod.swap) := by
  intro p hp q hq
  have hpath := h _ (mem_map_swap.1 hp) _ (mem_map_swap.1 hq)
  rw [← Prod.swap_swap p, ← Prod.swap_swap q]
  exact hpath.lift Prod.swap fun a b ⟨hb, ht⟩ => ⟨List.mem_map_of_mem hb, ht.2, ht.1⟩

theorem adjacent_iff : adjacent p q = true ↔ Touch p q := by simp [adjacent, Touch]

/-- What the model's rounds reach, they reach over linked points. -/
theorem reached_linked {n : Nat} {seen : List Point} (hseen : ∀ r ∈ seen, r ∈ ps) (hq : q ∈ reached n ps seen) :
    ∃ r ∈ seen, Relation.ReflTransGen (Linked ps) r q := by
  induction n generalizing seen with
  | zero => exact ⟨q, hq, .refl⟩
  | succ n ih =>
    obtain ⟨r, hr, hrq⟩ := ih (fun r hr => List.mem_of_mem_filter hr) hq
    obtain ⟨hrps, hnear⟩ := List.mem_filter.1 hr
    obtain ⟨o, ho, hadj⟩ := List.any_eq_true.1 hnear
    exact ⟨o, ho, .head ⟨hseen o ho, hrps, touch_comm.1 (adjacent_iff.1 hadj)⟩ hrq⟩

theorem connected8_of_check (h : connected8 ps = true) : Connected8 ps := by
  cases ps with
  | nil => exact fun _ hp => absurd hp List.not_mem_nil
  | cons o ps =>
    refine connected8_of_reaches (p := o) fun q hq => ?_
    have hreached : q ∈ reached (o :: ps).length (o :: ps) [o] := List.contains_iff_mem.1 (List.all_eq_true.1 h q hq)
    obtain ⟨r, hr, hrq⟩ := reached_linked (fun r hr => List.mem_singleton.1 hr ▸ List.mem_cons_self) hreached
    rwa [List.mem_singleton.1 hr] at hrq

end

/-! ## The demanded properties -/

section
variable {ps : List Point} {x0 y0 x1 y1 : Int}

/-- What R1118 demands of every LinePixels. -/
structure LineSound (ps : List Point) (x0 y0 x1 y1 : Int) : Prop where
  first : (x0, y0) ∈ ps
  last : (x1, y1) ∈ ps
  connected : Connected8 ps
  straight : x0 = x1 ∨ y0 = y1 ∨ (x1 - x0).natAbs = (y1 - y0).natAbs → ∀ p, p ∈ ps ↔ OnRun x0 y0 x1 y1 p

theorem onRun_swap {p : Point} : OnRun y0 x0 y1 x1 p ↔ OnRun x0 y0 x1 y1 p.swap := by
  simp only [OnRun, max_comm (y1 - y0).natAbs, Prod.ext_iff, Prod.fst_swap, Prod.snd_swap, and_comm (a := p.1 = _)]

/-- The mirror image of a line. -/
theorem LineSound.swap (h : LineSound ps x0 y0 x1 y1) : LineSound (ps.map Prod.swap) y0 x0 y1 x1 where
  first := mem_map_swap.2 h.first
  last := mem_map_swap.2 h.last
  connected := connected8_map_swap h.connected
  straight hs p := by
    have hs' : x0 = x1 ∨ y0 = y1 ∨ (x1 - x0).natAbs = (y1 - y0).natAbs := by omega
    rw [mem_map_swap, onRun_swap, h.straight hs' p.swap]

theorem mem_straightRun {p : Point} : p ∈ straightRun x0 y0 x1 y1 ↔ OnRun x0 y0 x1 y1 p := by
  simp [straightRun, OnRun, eq_comm (a := p)]

theorem samePoints_iff {ps qs : List Point} : samePoints ps qs = true ↔ ∀ p, p ∈ ps ↔ p ∈ qs := by
  simp only [samePoints, Bool.and_eq_true, List.all_eq_true, List.contains_iff_mem]
  exact ⟨fun ⟨h, h'⟩ p => ⟨h p, h' p⟩, fun h => ⟨fun p => (h p).1, fun p => (h p).2⟩⟩

theorem isStraight_iff : isStraight x0 y0 x1 y1 = true ↔
    x0 = x1 ∨ y0 = y1 ∨ (x1 - x0).natAbs = (y1 - y0).natAbs := by
  simp only [isStraight, Bool.or_eq_true, decide_eq_true_eq, or_assoc]

/-- The model's test of another choice. -/
theorem lineSound_of_lineOk (h : lineOk ps x0 y0 x1 y1 = true) : LineSound ps x0 y0 x1 y1 := by
  simp only [lineOk, Bool.and_eq_true, Bool.or_eq_true, List.contains_iff_mem] at h
  obtain ⟨⟨⟨hfirst, hlast⟩, hconn⟩, hrun⟩ := h
  refine ⟨hfirst, hlast, connected8_of_check hconn, fun hs p => ?_⟩
  have hsame : samePoints ps (straightRun x0 y0 x1 y1) = true :=
    hrun.resolve_left (by simp [isStraight_iff.2 hs])
  rw [samePoints_iff.1 hsame, mem_straightRun]

end

/-! ## The default algorithm in closed form -/

/-- How far a line of length `a` and height `b` has risen after `i` steps: `i * b / a`, rounded. -/
def rise (a b i : Nat) : Nat := (2 * (i * b) + a) / (2 * a)

section
variable {a b i : Nat}

theorem rise_point (b i : Nat) : rise 0 b i = 0 := by simp [rise]

theorem rise_eq_iff (ha : 0 < a) {j : Nat} :
    rise a b i = j ↔ 2 * (j * a) ≤ 2 * (i * b) + a ∧ 2 * (i * b) + a < 2 * (j * a) + 2 * a := by
  rw [rise, Nat.div_eq_iff (by omega)]
  have hj : j * (2 * a) = 2 * (j * a) := by ring
  rw [hj]
  omega

theorem rise_zero (a b : Nat) : rise a b 0 = 0 := by
  rcases Nat.eq_zero_or_pos a with rfl | ha
  · exact rise_point _ _
  · exact (rise_eq_iff ha).2 (by omega)

/-- The line has risen to its height at its end. -/
theorem rise_self (hba : b ≤ a) : rise a b a = b := by
  rcases Nat.eq_zero_or_pos a with rfl | ha
  · rw [rise_point, Nat.le_zero.1 hba]
  · exact (rise_eq_iff ha).2 (by rw [Nat.mul_comm b a]; omega)

theorem rise_flat (a i : Nat) : rise a 0 i = 0 := by
  rcases Nat.eq_zero_or_pos a with rfl | ha
  · exact rise_point _ _
  · exact (rise_eq_iff ha).2 (by omega)

theorem rise_diagonal (hi : i ≤ a) : rise a a i = i := by
  rcases Nat.eq_zero_or_pos a with rfl | ha
  · rw [rise_point, Nat.le_zero.1 hi]
  · exact (rise_eq_iff ha).2 (by omega)

/-- The algorithm's error term after `i` steps. -/
def errAt (a b i : Nat) : Int := (rise a b i + 1 : Int) * a - (i + 1 : Int) * b

theorem errAt_eq (a b i : Nat) : errAt a b i = ((rise a b i * a : Nat) : Int) + a - (i * b : Nat) - b := by
  rw [errAt]; push_cast; ring

/-- The error term is large enough for a step along the line … -/
theorem neg_le_errAt (ha : 0 < a) (hba : b ≤ a) (i : Nat) : -(b : Int) ≤ 2 * errAt a b i := by
  obtain ⟨_, hhigh⟩ := (rise_eq_iff (b := b) (i := i) ha).1 rfl
  have herr := errAt_eq a b i
  omega

/-- … and small enough for one up exactly where the line rises. -/
theorem rise_succ (ha : 0 < a) (hba : b ≤ a) (i : Nat) :
    rise a b (i + 1) = if 2 * errAt a b i ≤ a then rise a b i + 1 else rise a b i := by
  obtain ⟨hlow, hhigh⟩ := (rise_eq_iff (b := b) (i := i) ha).1 rfl
  have herr := errAt_eq a b i
  rw [rise_eq_iff ha, Nat.succ_mul i b]
  split
  · rw [Nat.add_mul, Nat.one_mul]; omega
  · omega

theorem errAt_succ (ha : 0 < a) (hba : b ≤ a) (i : Nat) :
    errAt a b (i + 1) = if 2 * errAt a b i ≤ a then errAt a b i + -b + a else errAt a b i + -b := by
  rw [errAt_eq a b (i + 1), rise_succ ha hba]
  have herr := errAt_eq a b i
  split <;> simp only [Nat.add_mul, Nat.one_mul] <;> omega

theorem rise_succ_bounds (ha : 0 < a) (hba : b ≤ a) (i : Nat) :
    rise a b i ≤ rise a b (i + 1) ∧ rise a b (i + 1) ≤ rise a b i + 1 := by
  rw [rise_succ ha hba]
  split <;> omega

end

/-- The `i`-th point of a line of length `a` and height `b` from (x0, y0), its steps `sx` across and `sy` up. -/
def ramp (x0 y0 sx sy : Int) (a b i : Nat) : Point := (x0 + sx * i, y0 + sy * rise a b i)

section
variable {x0 y0 x1 y1 sx sy : Int} {a b : Nat}

/-- The loop's rounds from the `i`-th on, `k` of them before the last. -/
theorem bresenhamFrom_eq_ramp (hsx : sx ≠ 0) (hba : b ≤ a) {i k n : Nat} (hik : i + k = a) (hn : k < n) :
    bresenhamFrom n (x0 + sx * i) (y0 + sy * rise a b i) (x0 + sx * a) (y0 + sy * b) a (-b) sx sy (errAt a b i) =
      (List.range' i (k + 1)).map (ramp x0 y0 sx sy a b) := by
  induction k generalizing i n with
  | zero =>
    obtain ⟨n, rfl⟩ : ∃ m, n = m + 1 := ⟨n - 1, by omega⟩
    obtain rfl : i = a := hik
    simp [bresenhamFrom, ramp, rise_self hba]
  | succ k ih =>
    obtain ⟨n, rfl⟩ : ∃ m, n = m + 1 := ⟨n - 1, by omega⟩
    have ha : 0 < a := by omega
    have hne : x0 + sx * i ≠ x0 + sx * a := by
      intro h
      have := mul_left_cancel₀ hsx (add_left_cancel h)
      omega
    have hx : x0 + sx * i + sx = x0 + sx * (i + 1 : Nat) := by push_cast; ring
    have hrec := ih (i := i + 1) (n := n) (by omega) (by omega)
    rw [List.range'_succ, List.map_cons, ← hrec, bresenhamFrom, if_neg fun h => hne h.1]
    have hacross : 2 * errAt a b i ≥ -(b : Int) := neg_le_errAt ha hba i
    have hy : (if 2 * errAt a b i ≤ a then y0 + sy * rise a b i + sy else y0 + sy * rise a b i) =
        y0 + sy * rise a b (i + 1) := by
      rw [rise_succ ha hba]
      split <;> push_cast <;> ring
    simp only [if_pos hacross, hx, hy, ← errAt_succ ha hba, ramp]

/-- The sign R1118 gives a step, times the distance, leads from one coordinate to the other. -/
theorem add_step_mul_natAbs (u v : Int) : u + (if u < v then 1 else -1) * ((v - u).natAbs : Int) = v := by
  split <;> omega

theorem step_mul_eq_sign_mul {u v : Int} {i : Nat} (h : i ≤ (v - u).natAbs) :
    (if u < v then 1 else -1) * (i : Int) = (v - u).sign * (i : Int) := by
  rcases lt_trichotomy u v with huv | rfl | huv
  · rw [if_pos huv, Int.sign_eq_one_of_pos (by omega)]
  · have : i = 0 := by omega
    simp [this]
  · rw [if_neg (by omega), Int.sign_eq_neg_one_of_neg (by omega)]

/-- A line that is at least as long across as up, in closed form. -/
theorem bresenhamLine_eq_ramp (hba : (y1 - y0).natAbs ≤ (x1 - x0).natAbs) :
    bresenhamLine x0 y0 x1 y1 = (List.range ((x1 - x0).natAbs + 1)).map
      (ramp x0 y0 (if x0 < x1 then 1 else -1) (if y0 < y1 then 1 else -1) (x1 - x0).natAbs (y1 - y0).natAbs) := by
  have hsx : (if x0 < x1 then 1 else -1 : Int) ≠ 0 := by split <;> decide
  have hloop := bresenhamFrom_eq_ramp (x0 := x0) (y0 := y0) (sy := if y0 < y1 then 1 else -1) hsx hba
    (i := 0) (k := (x1 - x0).natAbs) (n := (x1 - x0).natAbs + (y1 - y0).natAbs + 1) (by omega) (by omega)
  have herr : errAt (x1 - x0).natAbs (y1 - y0).natAbs 0 =
      ((x1 - x0).natAbs : Int) + -((y1 - y0).natAbs : Int) := by
    rw [errAt, rise_zero]; push_cast; ring
  rw [add_step_mul_natAbs, add_step_mul_natAbs, herr, rise_zero] at hloop
  rw [List.range_eq_range', ← hloop, bresenhamLine]
  simp

theorem lineSound_bresenhamLine_of_le (hba : (y1 - y0).natAbs ≤ (x1 - x0).natAbs) :
    LineSound (bresenhamLine x0 y0 x1 y1) x0 y0 x1 y1 := by
  rw [bresenhamLine_eq_ramp hba]
  constructor
  case first =>
    exact List.mem_map.2 ⟨0, by simp, by simp [ramp, rise_zero]⟩
  case last =>
    refine List.mem_map.2 ⟨(x1 - x0).natAbs, by simp, ?_⟩
    rw [ramp, rise_self hba, add_step_mul_natAbs, add_step_mul_natAbs]
  case connected =>
    refine connected8_map_range _ fun i hi => ?_
    obtain ⟨hlow, hhigh⟩ := rise_succ_bounds (by omega) hba i
    simp only [Touch, ramp]
    constructor <;> split <;> omega
  case straight =>
    intro hs p
    simp only [OnRun, List.mem_map, List.mem_range, Nat.lt_succ_iff, max_eq_left hba, eq_comm (a := p)]
    refine exists_congr fun i => and_congr_right fun hi => ?_
    have hrise : (if y0 < y1 then 1 else -1) * (rise (x1 - x0).natAbs (y1 - y0).natAbs i : Int) =
        (y1 - y0).sign * (i : Int) := by
      rcases Nat.eq_zero_or_pos (y1 - y0).natAbs with hflat | hpos
      · rw [hflat, rise_flat, Int.natAbs_eq_zero.1 hflat]
        simp
      · have hdiag : (x1 - x0).natAbs = (y1 - y0).natAbs := by omega
        rw [hdiag] at hi ⊢
        rw [rise_diagonal hi, step_mul_eq_sign_mul hi]
    rw [ramp, hrise, step_mul_eq_sign_mul hi]

/-! ## The mirror image -/

/-- The loop with the two coordinates exchanged: the error term changes its sign. -/
theorem bresenhamFrom_swap (n : Nat) (x y x1 y1 dx dy sx sy err : Int) :
    bresenhamFrom n y x y1 x1 (-dy) (-dx) sy sx (-err) =
      (bresenhamFrom n x y x1 y1 dx dy sx sy err).map Prod.swap := by
  induction n generalizing x y err with
  | zero => rfl
  | succ n ih =>
    rw [bresenhamFrom, bresenhamFrom, List.map_cons, Prod.swap_prod_mk]
    congr 1
    by_cases hend : x = x1 ∧ y = y1
    · rw [if_pos hend, if_pos hend.symm, List.map_nil]
    · rw [if_neg hend, if_neg (mt And.symm hend)]
      have hup : 2 * -err ≥ -dx ↔ 2 * err ≤ dx := by omega
      have hacross : 2 * -err ≤ -dy ↔ 2 * err ≥ dy := by omega
      simp only [hup, hacross, ← ih]
      congr 1
      split <;> split <;> omega

theorem bresenhamLine_swap (x0 y0 x1 y1 : Int) :
    bresenhamLine y0 x0 y1 x1 = (bresenhamLine x0 y0 x1 y1).map Prod.swap := by
  have hswap := bresenhamFrom_swap ((x1 - x0).natAbs + (y1 - y0).natAbs + 1) x0 y0 x1 y1 (x1 - x0).natAbs
    (-((y1 - y0).natAbs : Int)) (if x0 < x1 then 1 else -1) (if y0 < y1 then 1 else -1)
    ((x1 - x0).natAbs + -((y1 - y0).natAbs : Int))
  rw [neg_neg, neg_add, neg_neg, Int.add_comm (-_)] at hswap
  rw [bresenhamLine, bresenhamLine, ← hswap, Nat.add_comm (y1 - y0).natAbs]

theorem lineSound_bresenhamLine (x0 y0 x1 y1 : Int) : LineSound (bresenhamLine x0 y0 x1 y1) x0 y0 x1 y1 := by
  rcases Nat.le_total (y1 - y0).natAbs (x1 - x0).natAbs with h | h
  · exact lineSound_bresenhamLine_of_le h
  · rw [bresenhamLine_swap y0 x0 y1 x1]
    exact (lineSound_bresenhamLine_of_le h).swap

theorem lineSound_linePixels (alg : LineAlgorithm) (x0 y0 x1 y1 : Int) :
    LineSound (linePixels alg x0 y0 x1 y1) x0 y0 x1 y1 := by
  unfold linePixels
  split
  · exact lineSound_bresenhamLine x0 y0 x1 y1
  · split
    · rename_i hok
      exact lineSound_of_lineOk hok
    · exact lineSound_bresenhamLine x0 y0 x1 y1

end

end Sys2Proof.Proofs

namespace Sys2Proof.Settled

open Sys2Proof Sys2Proof.Machine Sys2Proof.Claims Sys2Proof.Proofs

/-- Settles O46: the default algorithm by its closed form, another choice by the model's test of it. -/
theorem linePixelsKeepDemandedProperties : Obligations.LinePixelsKeepDemandedProperties := by
  intro alg x0 y0 x1 y1
  obtain ⟨hfirst, hlast, hconn, hrun⟩ := lineSound_linePixels alg x0 y0 x1 y1
  exact ⟨hfirst, hlast, hconn, hrun⟩

end Sys2Proof.Settled
end

section
/-! SUPPORT. CirclePixels (47_interrupt.md R1122): every round of the default algorithm yields eight points that are symmetric
about the centre, and the first round yields the axis points. -/

namespace Sys2Proof.Proofs

open Sys2Proof Sys2Proof.Machine Sys2Proof.Claims

variable {ps qs : List Point} {cx cy : Int} {r : Nat}

/-- The reflections that make up the eight octants: left and right, up and down, and across the diagonal (R1122). -/
def ReflectsIn (cx cy : Int) (ps : List Point) : Prop :=
  ∀ a b : Int, (cx + a, cy + b) ∈ ps → (cx - a, cy + b) ∈ ps ∧ (cx + a, cy - b) ∈ ps ∧ (cx + b, cy + a) ∈ ps

/-- What R1122 demands of every CirclePixels. -/
structure CircleSound (ps : List Point) (cx cy : Int) (r : Nat) : Prop where
  reflects : ReflectsIn cx cy ps
  right : (cx + r, cy) ∈ ps
  left : (cx - r, cy) ∈ ps
  below : (cx, cy + r) ∈ ps
  above : (cx, cy - r) ∈ ps
  centre : r = 0 → ∀ p, p ∈ ps ↔ p = (cx, cy)

/-- The points of a round lie at the distances `x` and `y` from the centre, one along each axis. -/
theorem mem_octants {a b x y : Int} : (cx + a, cy + b) ∈ octants cx cy x y ↔
    (a.natAbs = x.natAbs ∧ b.natAbs = y.natAbs) ∨ (a.natAbs = y.natAbs ∧ b.natAbs = x.natAbs) := by
  simp only [octants, List.mem_cons, List.not_mem_nil, or_false, Prod.mk.injEq, Int.natAbs_eq_natAbs_iff,
    sub_eq_add_neg, add_right_inj, and_or_left, or_and_right, or_assoc]

theorem octants_reflectsIn (cx cy x y : Int) : ReflectsIn cx cy (octants cx cy x y) := by
  intro a b h
  simp only [sub_eq_add_neg, mem_octants, Int.natAbs_neg] at h ⊢
  exact ⟨h, h, h.symm.imp And.symm And.symm⟩

theorem ReflectsIn.append (hp : ReflectsIn cx cy ps) (hq : ReflectsIn cx cy qs) : ReflectsIn cx cy (ps ++ qs) := by
  intro a b h
  simp only [List.mem_append] at h ⊢
  rcases h with h | h
  · obtain ⟨hx, hy, hd⟩ := hp a b h
    exact ⟨.inl hx, .inl hy, .inl hd⟩
  · obtain ⟨hx, hy, hd⟩ := hq a b h
    exact ⟨.inr hx, .inr hy, .inr hd⟩

theorem midpointFrom_reflectsIn (n : Nat) (cx cy x y err : Int) : ReflectsIn cx cy (midpointFrom n cx cy x y err) := by
  induction n generalizing x y err with
  | zero => exact fun _ _ h => absurd h List.not_mem_nil
  | succ n ih =>
    rw [midpointFrom]
    split
    · refine (octants_reflectsIn cx cy x y).append ?_
      dsimp only
      split
      · exact ih _ _ _
      · exact ih _ _ _
    · exact fun _ _ h => absurd h List.not_mem_nil

/-- The first round of the default algorithm. -/
theorem mem_midpointCircle_of_octants {p : Point} (h : p ∈ octants cx cy r 0) : p ∈ midpointCircle cx cy r := by
  rw [midpointCircle, midpointFrom, if_pos (Int.natCast_nonneg r)]
  exact List.mem_append_left _ h

theorem midpointCircle_zero (cx cy : Int) (p : Point) : p ∈ midpointCircle cx cy 0 ↔ p = (cx, cy) := by
  simp [midpointCircle, midpointFrom, octants]

theorem circleSound_midpointCircle (cx cy : Int) (r : Nat) : CircleSound (midpointCircle cx cy r) cx cy r where
  reflects := midpointFrom_reflectsIn _ _ _ _ _ _
  right := mem_midpointCircle_of_octants (by simp [octants])
  left := mem_midpointCircle_of_octants (by simp [octants])
  below := mem_midpointCircle_of_octants (by simp [octants])
  above := mem_midpointCircle_of_octants (by simp [octants])
  centre h p := by rw [h, midpointCircle_zero]

theorem reflectsIn_of_octantSymmetric (h : octantSymmetric ps cx cy = true) : ReflectsIn cx cy ps := by
  intro a b hp
  have hall := List.all_eq_true.1 h _ hp
  simp only [add_sub_cancel_left, List.all_eq_true, List.contains_iff_mem] at hall
  exact ⟨hall _ (by simp [octants]), hall _ (by simp [octants]), hall _ (by simp [octants])⟩

/-- The model's test of another choice. -/
theorem circleSound_of_circleOk (h : circleOk ps cx cy r = true) : CircleSound ps cx cy r := by
  simp only [circleOk, Bool.and_eq_true, Bool.or_eq_true, List.contains_iff_mem, decide_eq_true_eq] at h
  obtain ⟨⟨⟨⟨⟨hsymm, hright⟩, hleft⟩, hbelow⟩, habove⟩, hcentre⟩ := h
  refine ⟨reflectsIn_of_octantSymmetric hsymm, hright, hleft, hbelow, habove, fun hr p => ?_⟩
  have hsame : samePoints ps [(cx, cy)] = true := hcentre.resolve_left (not_not.2 hr)
  rw [samePoints_iff.1 hsame, List.mem_singleton]

theorem circleSound_circlePixels (alg : CircleAlgorithm) (cx cy : Int) (r : Nat) :
    CircleSound (circlePixels alg cx cy r) cx cy r := by
  unfold circlePixels
  split
  · exact circleSound_midpointCircle cx cy r
  · split
    · rename_i hok
      exact circleSound_of_circleOk hok
    · exact circleSound_midpointCircle cx cy r

end Sys2Proof.Proofs

namespace Sys2Proof.Settled

open Sys2Proof Sys2Proof.Machine Sys2Proof.Claims Sys2Proof.Proofs

/-- Settles O47: the default algorithm round by round, another choice by the model's test of it. -/
theorem circlePixelsKeepDemandedProperties : Obligations.CirclePixelsKeepDemandedProperties := by
  intro alg cx cy r
  obtain ⟨hreflects, hright, hleft, hbelow, habove, hcentre⟩ := circleSound_circlePixels alg cx cy r
  exact ⟨hreflects, hright, hleft, hbelow, habove, hcentre⟩

end Sys2Proof.Settled
end

section
/-! SUPPORT. The interrupt dispatcher and the interrupt instructions (47_interrupt.md R1100-R1110, R1125-R1138): what an INT with a
service leaves, and the two pops of IRET, which undo the keyboard interrupt's entry (60_exceptions.md R1207). -/

namespace Sys2Proof.Proofs

open Sys2Proof Sys2Proof.Machine Sys2Proof.Claims

variable {s t u : State} {n : Word} {svc : Service}

/-! ## INT -/

/-- INT with a service is that service, then the step to the next instruction (R1102). -/
theorem exec_int_of_serves (h : Serves s n svc) : exec (.int n) s = .next (performService svc s).advance := by
  have hservice : serviceOf n s = some svc := h
  rw [exec, execInt, hservice]

theorem exec_int_of_unmapped (h : s.par.intMap.lookup n = none) :
    exec (.int n) s = .next (s.raise (.unknownInt n)).advance := by
  have hservice : serviceOf n s = none := h
  rw [exec, execInt, hservice]

theorem exec_int_answers (n : Word) (s : State) : ∃ t, exec (.int n) s = .next t := by
  cases h : s.par.intMap.lookup n with
  | none => exact ⟨_, exec_int_of_unmapped h⟩
  | some svc => exact ⟨_, exec_int_of_serves h⟩

theorem FlagsWithin.eq_of_int {f g : Flags} (h : FlagsWithin (.int n) f g) : g = f := by
  obtain ⟨hz, hn⟩ := h.zeroNegative rfl
  have hc := h.carry rfl
  have hv := h.overflow rfl
  have hi := h.interrupt rfl
  cases f
  cases g
  simp_all only

/-- The footprint of INT, as one record (R1100). -/
theorem Within.eq_of_int (h : Within (.int n) s u) :
    u = { s with regs := u.regs, kbd := u.kbd, fb := u.fb, cur := u.cur, color := u.color, out := u.out,
                 audio := u.audio, draws := u.draws } := by
  have hpc := h.pc
  have hflags := h.flags.eq_of_int
  have himem := h.imem
  have hpar := h.par
  have hsched := h.sched
  have hadvancing := h.advancing
  have hdmem := h.dmem rfl
  have hstk := h.stk rfl
  have hrun := h.run nofun
  have htrace := h.trace nofun
  cases s
  cases u
  simp_all only

/-- A service whose result is `R0` and nothing else. -/
theorem int_writes {v : Word} (h : Serves s n svc) (hp : performService svc s = s.setReg .r0 v) :
    Writes (exec (.int n) s) s .r0 v s.flags := by
  rw [exec_int_of_serves h, hp]
  exact writeReg_writes .r0 v s

/-- A service whose result in `R0` is a free value, which is counted as drawn (log entry 6). -/
theorem int_writes_drawn {v : Word} (h : Serves s n svc) (hp : performService svc s = (s.setReg .r0 v).drawn) :
    ∃ t, exec (.int n) s = .next t ∧ (∀ q, t.reg q = if q = .r0 then v else s.reg q) ∧
      t = { s with regs := t.regs, draws := s.draws + 1, pc := s.pc + 1 } := by
  rw [exec_int_of_serves h, hp]
  exact ⟨_, rfl, fun q => State.setReg_reg s .r0 q v, rfl⟩

theorem printValue_eq_pval (s : State) : printValue s = pval s := by
  unfold printValue pval
  by_cases h : s.reg .r7 = 0
  · rw [if_pos h, if_neg (not_not.2 h)]
  · rw [if_neg h, if_pos h]

theorem kbdRead_nil (h : s.kbd.queue = []) : kbdRead s = s.setReg .r0 0 := by rw [kbdRead, h]

theorem kbdRead_cons {scan ascii : Word} {rest : List (Word × Word)} (h : s.kbd.queue = (scan, ascii) :: rest) :
    kbdRead s = (s.setReg .r0 ascii).setKbd { s.kbd with queue := rest } := by rw [kbdRead, h]

theorem kbdStatus_eq (s : State) : kbdStatus s = s.setReg .r0 (if s.kbd.queue = [] then 0 else 1) := by
  simp only [kbdStatus, List.isEmpty_iff]

/-- The numbers that the default map serves (R1101). -/
theorem lookup_defaultIntMap_eq_none (h : n ∉ defaultIntMap.map Prod.fst) : defaultIntMap.lookup n = none :=
  List.lookup_eq_none_iff.2 fun p hp => by
    have hne : n ≠ p.1 := fun e => h (e ▸ List.mem_map_of_mem hp)
    simpa using hne

/-! ## IRET -/

theorem interruptReturn_eq (s : State) : interruptReturn s =
    (popPc (popFlags s)).setFlags ((popPc (popFlags s)).flags.setI s.par.iretIfValue) := rfl

/-- IRET on an empty stack (R1105). -/
theorem execIret_nil (h : s.stk = []) : execIret s =
    .next { s with flags := { s.flags with i := s.par.iretIfValue }, pc := s.pc + 1 } := by
  rw [execIret, interruptReturn_eq, popFlags_nil h, popPc_nil h]
  rfl

/-- IRET on a stack of one entry: the pop of pc finds none (R1105). -/
theorem execIret_single {f : Word} (h : s.stk = [f]) : ∃ t, execIret s = .next t ∧ spUp s t 1 ∧
    t = { s with regs := t.regs, stk := [], pc := s.pc + 1,
                 flags := { unpackedInto s.flags f with i := s.par.iretIfValue } } := by
  rw [execIret, interruptReturn_eq, popFlags_cons h, popPc_nil rfl]
  exact ⟨_, rfl, popped_spUp s [], rfl⟩

theorem popped_popped_spUp (s : State) (l rest : List Word) : spUp s (popped (popped s l) rest) 2 := by
  intro q
  rw [popped_reg, popped_reg, popped_reg, if_pos rfl]
  split
  · exact BitVec.add_assoc _ 1 1
  · rfl

/-- IRET where both pops find an entry (R1105). -/
theorem execIret_cons_cons {f v : Word} {rest : List Word} (h : s.stk = f :: v :: rest) :
    ∃ t, execIret s = .next t ∧ spUp s t 2 ∧
      t = { s with regs := t.regs, stk := rest, pc := v,
                   flags := { unpackedInto s.flags f with i := s.par.iretIfValue } } := by
  have hstk : ((popped s (v :: rest)).setFlags (unpackedInto s.flags f)).stk = v :: rest := rfl
  rw [execIret, interruptReturn_eq, popFlags_cons h, popPc_cons hstk]
  exact ⟨_, rfl, popped_popped_spUp s (v :: rest) rest, rfl⟩

/-- The two entries that the keyboard interrupt leaves on the stack (R1206). -/
theorem stk_of_step_key {scan ascii : Word} {q : List Turn} (hq : s.sched = .host (.key scan ascii) :: q)
    (hv : Vectors s) (h : step s = .next t) : t.stk = packed s.flags :: s.pc :: s.stk := by
  rw [step_key hq, if_pos ((vectorEnabled_keyed s scan ascii q).2 hv)] at h
  obtain ⟨_, _, rfl⟩ := interruptEntry_eq_next h
  rw [← packed_eq_pack]
  rfl

end Sys2Proof.Proofs

namespace Sys2Proof.Settled

open Sys2Proof Sys2Proof.Machine Sys2Proof.Claims Sys2Proof.Proofs

/-- Settles O38: the frame is INT's footprint. -/
theorem softwareInterruptCompletes : Obligations.SoftwareInterruptCompletes := by
  refine ⟨fun _ => decode_wordI rfl, fun s n => ?_, fun s n h => exec_int_of_unmapped h⟩
  obtain ⟨t, ht⟩ := exec_int_answers n s
  obtain ⟨u, p, rfl, hu, hp⟩ := exec_eq_next ht
  refine ⟨_, ht, fun q hq => hu.reg q hq, ?_⟩
  rw [hp rfl]
  exact congrArg (fun u : State => u.setPc (s.pc + 1)) hu.eq_of_int

/-- Settles O50: IRET's two pops find what the entry's two pushes left. -/
theorem iretUndoesKeyboardEntry : Obligations.IretUndoesKeyboardEntry := by
  intro s t scan ascii q hq hv ht u hu
  rw [stk_of_step_key hq hv ht] at hu
  obtain ⟨v, hexec, hsp, hframe⟩ := execIret_cons_cons hu
  rw [unpackedInto_packed] at hframe
  exact ⟨v, hexec, hsp, hframe⟩

/-- Settles O37: IRET by the number of entries that its two pops find. -/
theorem interruptFlagAndReturn : Obligations.InterruptFlagAndReturn :=
  ⟨decode_wordN rfl, decode_wordN rfl, decode_wordN rfl, fun _ =>
    ⟨rfl, rfl, execIret_nil, fun _ h => execIret_single h, fun _ _ _ h => execIret_cons_cons h⟩⟩

/-- Settles O39: the table row by row; a number that is no row's is looked up in vain. -/
theorem defaultInterruptMap : Obligations.DefaultInterruptMap :=
  ⟨rfl, rfl, rfl, rfl, rfl, rfl, rfl, rfl, rfl, rfl, rfl, rfl, rfl, rfl, rfl, rfl, rfl, rfl, rfl, rfl, rfl, rfl, rfl, rfl,
    rfl, rfl, rfl, fun _ h => lookup_defaultIntMap_eq_none h⟩

/-- Settles O40: each is its record of the print value. -/
theorem printServices : Obligations.PrintServices := by
  intro s n
  rw [← printValue_eq_pval]
  exact ⟨exec_int_of_serves, exec_int_of_serves, exec_int_of_serves, exec_int_of_serves⟩

/-- Settles O41: four services update the device, four write R0; KBD_READ does both, by whether the queue holds an entry. -/
theorem keyboardServices : Obligations.KeyboardServices := by
  intro s n
  refine ⟨exec_int_of_serves, exec_int_of_serves, exec_int_of_serves, fun h => int_writes h rfl, fun h => int_writes h rfl,
    fun h => ⟨fun hq => int_writes h (kbdRead_nil hq), fun scan ascii rest hq => ?read⟩,
    fun h => int_writes h (kbdStatus_eq s), fun h => int_writes h rfl, exec_int_of_serves⟩
  case read =>
    rw [exec_int_of_serves h, performService, kbdRead_cons hq]
    exact ⟨_, rfl, fun q => State.setReg_reg s .r0 q ascii, rfl⟩

/-- Settles O42: the draw goes to R0 and is counted; the record goes to the audio port. -/
theorem drawAndAudioServices : Obligations.DrawAndAudioServices := by
  intro s n
  exact ⟨fun h => int_writes_drawn h rfl, fun h => int_writes_drawn h rfl, exec_int_of_serves, exec_int_of_serves⟩

end Sys2Proof.Settled
end

section
/-! SUPPORT. The screen services (47_interrupt.md R1112-R1124): what a service that only writes the framebuffer draws, and which
on-screen points the rectangles hold. -/

namespace Sys2Proof.Proofs

open Sys2Proof Sys2Proof.Machine Sys2Proof.Claims

variable {s : State} {n : Word} {svc : Service} {p : Point}

theorem onScreen_iff (p : Point) : onScreen p = true ↔ OnScreen p := by simp [onScreen, OnScreen, and_assoc]

/-! ## Services that draw -/

/-- A service that leaves the framebuffer `m` and changes nothing else. -/
theorem int_draws {m : Memory} {drawn : Point → Prop} {c : Word} (h : Serves s n svc)
    (hp : performService svc s = s.setFb m)
    (hm : ∀ p, OnScreen p → (drawn p → pixel m p = c) ∧ (¬ drawn p → pixel m p = pixel s.fb p)) :
    Draws (exec (.int n) s) s drawn c := by
  rw [exec_int_of_serves h, hp]
  exact ⟨_, rfl, hm, rfl⟩

/-- A service that plots points in the active colour. -/
theorem int_draws_points {ps : List Point} {drawn : Point → Prop} (hfb : s.fb.wf = true) (h : Serves s n svc)
    (hp : performService svc s = drawPoints ps s) (hps : ∀ p, OnScreen p → (p ∈ ps ↔ drawn p)) :
    Draws (exec (.int n) s) s drawn s.color := by
  refine int_draws h hp fun p hon => ?_
  rw [pixel_plotAll ps p s.color hfb]
  exact ⟨fun hd => if_pos ⟨(hps p hon).2 hd, (onScreen_iff p).2 hon⟩,
    fun hd => if_neg fun hc => hd ((hps p hon).1 hc.1)⟩

/-- SCREEN_CLEAR leaves every pixel at its reset value (R1113). -/
theorem pixel_nil (p : Point) : pixel [] p = 0 := by
  unfold pixel
  split <;> rfl

theorem pixel_of_not_onScreen (fb : Memory) (h : ¬ OnScreen p) : pixel fb p = 0 := if_neg (mt (onScreen_iff p).1 h)

theorem screenDrawCircle_eq (s : State) : screenDrawCircle s = drawPoints (if 0 ≤ s.coord .r2 then
    circlePixels s.par.circleAlgorithm (s.coord .r0) (s.coord .r1) (s.coord .r2).toNat else []) s := by
  unfold screenDrawCircle
  split <;> rfl

/-! ## Rectangles -/

section
variable {x0 y0 x1 y1 wd ht : Int}

theorem mem_clipped {lo len i : Int} {bound : Nat} :
    i ∈ clipped lo len bound ↔ (0 ≤ i ∧ i < bound) ∧ lo ≤ i ∧ i < lo + len := by
  simp only [clipped, List.mem_filter, List.mem_map, List.mem_range, Bool.and_eq_true, decide_eq_true_eq]
  refine and_congr_left fun _ => ⟨?_, fun ⟨hlow, hhigh⟩ => ⟨i.toNat, by omega, Int.toNat_of_nonneg hlow⟩⟩
  rintro ⟨k, hk, rfl⟩
  exact ⟨Int.natCast_nonneg k, Int.ofNat_lt.2 hk⟩

/-- Two horizontal edges. -/
theorem mem_flatMap_horizontal {l : List Int} :
    p ∈ l.flatMap (fun px => [(px, y0), (px, y1)]) ↔ p.1 ∈ l ∧ (p.2 = y0 ∨ p.2 = y1) := by
  obtain ⟨x, y⟩ := p
  simp only [List.mem_flatMap, List.mem_cons, List.not_mem_nil, or_false, Prod.mk.injEq, ← and_or_left]
  exact ⟨fun ⟨_, hl, hx, hy⟩ => ⟨hx ▸ hl, hy⟩, fun ⟨hl, hy⟩ => ⟨x, hl, rfl, hy⟩⟩

/-- Two vertical edges. -/
theorem mem_flatMap_vertical {l : List Int} :
    p ∈ l.flatMap (fun py => [(x0, py), (x1, py)]) ↔ p.2 ∈ l ∧ (p.1 = x0 ∨ p.1 = x1) := by
  obtain ⟨x, y⟩ := p
  simp only [List.mem_flatMap, List.mem_cons, List.not_mem_nil, or_false, Prod.mk.injEq, ← or_and_right]
  exact ⟨fun ⟨_, hl, hx, hy⟩ => ⟨hy ▸ hl, hx⟩, fun ⟨hl, hx⟩ => ⟨y, hl, hx, rfl⟩⟩

/-- A product of two ranges, row by row. -/
theorem mem_flatMap_rows {xs ys : List Int} :
    p ∈ ys.flatMap (fun py => xs.map fun px => (px, py)) ↔ p.1 ∈ xs ∧ p.2 ∈ ys := by
  obtain ⟨x, y⟩ := p
  simp [and_comm]

theorem size_pos_of_inRect (h : InRect x0 y0 wd ht p) : 0 < wd ∧ 0 < ht := by
  obtain ⟨hleft, hright, htop, hbottom⟩ := h
  omega

/-- The on-screen points of a rectangle's outline (R1119). -/
theorem mem_rectOutline (hp : OnScreen p) : p ∈ rectOutline x0 y0 wd ht ↔
    InRect x0 y0 wd ht p ∧ (p.1 = x0 ∨ p.1 = x0 + wd - 1 ∨ p.2 = y0 ∨ p.2 = y0 + ht - 1) := by
  obtain ⟨hx, hx', hy, hy'⟩ := hp
  unfold rectOutline
  split
  · rw [List.mem_append, mem_flatMap_horizontal, mem_flatMap_vertical, mem_clipped, mem_clipped, InRect]
    omega
  · rename_i hempty
    exact ⟨fun h => absurd h List.not_mem_nil, fun h => absurd (size_pos_of_inRect h.1) hempty⟩

/-- The on-screen points of a rectangle's area (R1120). -/
theorem mem_rectFilled (hp : OnScreen p) : p ∈ rectFilled x0 y0 wd ht ↔ InRect x0 y0 wd ht p := by
  obtain ⟨hx, hx', hy, hy'⟩ := hp
  unfold rectFilled
  split
  · rw [mem_flatMap_rows, mem_clipped, mem_clipped, InRect]
    omega
  · rename_i hempty
    exact ⟨fun h => absurd h List.not_mem_nil, fun h => absurd (size_pos_of_inRect h) hempty⟩

end

/-! ## SCREEN_PRINT_CHAR -/

/-- A pixel after plots that are each in `color` or in 0 (R1124). -/
theorem pixel_foldl_plot (l : List (Point × Bool)) (color : Word) {fb : Memory} (h : fb.wf = true) (q : Point) :
    let m := l.foldl (fun m p => plot m p.1 (if p.2 then color else 0)) fb
    pixel m q = pixel fb q ∨ pixel m q = color ∨ pixel m q = 0 := by
  induction l generalizing fb with
  | nil => exact .inl rfl
  | cons e l ih =>
    rcases ih (plot_wf e.1 (if e.2 then color else 0) h) with hkept | hdrawn
    · simp only [List.foldl_cons, hkept, pixel_plot _ _ _ h]
      split
      · cases e.2
        · exact .inr (.inr rfl)
        · exact .inr (.inl rfl)
      · exact .inl rfl
    · exact .inr hdrawn

/-- SCREEN_PRINT_CHAR is a function of the framebuffer, the cursor, the colour and R0 (R1124). -/
theorem exec_int_printChar (h : Serves s n .screenPrintChar) : exec (.int n) s = .next
    { s with fb := putCharFb s.fb s.cur s.color (s.reg .r0), cur := putCharCur s.fb s.cur s.color (s.reg .r0),
             pc := s.pc + 1 } := exec_int_of_serves h

end Sys2Proof.Proofs

namespace Sys2Proof.Settled

open Sys2Proof Sys2Proof.Machine Sys2Proof.Claims Sys2Proof.Proofs

/-- Settles O43: SCREEN_CLEAR and SCREEN_SET_PIXEL write the framebuffer, SCREEN_GET_PIXEL R0, the others their own field. -/
theorem pixelColorAndCursorServices : Obligations.PixelColorAndCursorServices := by
  intro s n hfb
  refine ⟨fun h => ?clear, fun h => ?set, fun h => ?get, exec_int_of_serves, exec_int_of_serves⟩
  case clear => exact int_draws h rfl fun p _ => ⟨fun _ => pixel_nil p, fun hd => absurd trivial hd⟩
  case set =>
    refine int_draws h rfl fun p hon => ?_
    rw [pixel_plot _ p _ hfb]
    exact ⟨fun hd => if_pos ⟨hd, hd ▸ (onScreen_iff p).2 hon⟩, fun hd => if_neg fun hc => hd hc.1⟩
  case get =>
    have hget := int_writes h rfl
    exact ⟨fun _ => hget, fun hoff => pixel_of_not_onScreen s.fb hoff ▸ hget⟩

/-- Settles O44: the points of the clipped outline and of the clipped area. -/
theorem rectangleServices : Obligations.RectangleServices := by
  intro s n hfb
  exact ⟨fun h => int_draws_points hfb h rfl fun _ hon => mem_rectOutline hon,
    fun h => int_draws_points hfb h rfl fun _ hon => mem_rectFilled hon⟩

/-- Settles O45: the points of LinePixels; those of CirclePixels, or none for a negative radius. -/
theorem lineAndCircleServices : Obligations.LineAndCircleServices := by
  intro s n hfb
  refine ⟨fun h => int_draws_points hfb h rfl fun _ _ => Iff.rfl,
    fun h => int_draws_points hfb h (screenDrawCircle_eq s) fun p _ => ?_⟩
  split
  · rename_i hr
    exact (and_iff_right hr).symm
  · rename_i hr
    exact ⟨fun hp => absurd hp List.not_mem_nil, fun hp => absurd hp.1 hr⟩

/-- Settles O48: the plots of ScreenPutChar are each in COLOR or 0, and depend on the four arguments only. -/
theorem printCharOnScreen : Obligations.PrintCharOnScreen := by
  refine ⟨fun s n hfb h => ⟨_, exec_int_printChar h, fun p _ => pixel_foldl_plot _ s.color hfb p, rfl⟩, ?_⟩
  intro s s' t t' n n' h h' hfb hcur hcolor hr0 ht ht'
  rw [exec_int_printChar h] at ht
  rw [exec_int_printChar h'] at ht'
  injection ht with ht
  injection ht' with ht'
  rw [← ht, ← ht', hfb, hcur, hcolor, hr0]
  exact ⟨rfl, rfl⟩

end Sys2Proof.Settled
end

section
/-! SUPPORT. The machine right after reset is a fixed point of the external reset followed by IDLE (R1300, R1301). -/

namespace Sys2Proof.Proofs

open Sys2Proof Sys2Proof.Machine Sys2Proof.Claims

theorem setRun_externalReset_reset : (externalReset State.reset).setRun .idle = State.reset := rfl

end Sys2Proof.Proofs

namespace Sys2Proof.Settled

open Sys2Proof Sys2Proof.Machine Sys2Proof.Claims Sys2Proof.Proofs

/-- Settles O57: what an external reset leaves is sound, an empty program at rest included, and reset sets no mark of an
auto-advance. -/
theorem resetMeetsInvariant : Obligations.ResetMeetsInvariant := by
  have hsound : Sound ((externalReset State.reset).setRun .idle) :=
    externalReset_sound (s := State.reset) (Nat.two_pow_pos 32) (by simp)
  rw [setRun_externalReset_reset] at hsound
  exact inv_of_sound hsound rfl

end Sys2Proof.Settled
end
